-- ==== Sys2Proof/Word.lean ====
section
/-! DEFINITION. The words of the part: a byte of a domain link, a 16-bit field, a value of the time base. -/

namespace Sys2Proof

/-- One byte of a domain link. -/
abbrev Byte := BitVec 8

/-- A 16-bit field of a frame body, a colour, a CRC, or a set of notice conditions. -/
abbrev Half := BitVec 16

/-- A value of the 32-bit time base (R22). -/
abbrev Time := BitVec 32

/-- The three domain ports (manual, "Ports and roles"). -/
inductive Port where
  | ad
  | pd
  | rd
  deriving DecidableEq, Repr

end Sys2Proof
end

