-- ==== Sys2Proof/Syntax.lean ====
section
/-! DEFINITION. The commands of the part, one constructor for each row of spec/opcode_table.json, in the table's order.

Every row that is the arrival of a byte on a domain link carries the port and THE BYTE THAT ARRIVES (R158, R160: a
header is complete at its second length byte, a frame is taken at its second CRC byte). Everything else such a row acts
on (the frame's type, its body, the blocks it holds) stands in the state, put there by the bytes before it. -/

namespace Sys2Proof

/-- The commands. `p` is a domain port, `b` the byte that arrives on its link, `c` a channel number, `e` an entry index. -/
inductive Instr where
  /-- POWER_ON_RESET: nRST (R5, R22, R42, R85, R104, R123, R133, R141, R165, R180). -/
  | powerOnReset
  /-- FRAME_HEADER: `b` is the second length byte and announces a body of 0..1040 bytes (R37, R158). -/
  | frameHeader (p : Port) (b : Byte)
  /-- UNKNOWN_TYPE_DISCARD: `b` follows a sync candidate and is none of the nine type codes (R158). -/
  | unknownTypeDiscard (p : Port) (b : Byte)
  /-- LENGTH_OVERRUN_DISCARD: `b` is the second length byte and announces more than 1040 bytes (R158). -/
  | lengthOverrunDiscard (p : Port) (b : Byte)
  /-- CRC_MISMATCH: `b` is the second CRC byte of a frame whose CRC does not match (R158). -/
  | crcMismatch (p : Port) (b : Byte)
  /-- INTER_BYTE_TIMEOUT: the arrival time of the latest byte of a partial frame + 21 is reached (R159). -/
  | interByteTimeout (p : Port)
  /-- FRAMING_ERROR: a byte with a stop bit of 0 arrives on the radio link (R155). -/
  | framingError
  /-- CTS_CHANGE: the radio link's CTS input takes the level `asserted`. `lastStarted` says whether the last CRC byte of
  the frame in transmission has been started at that moment (R155: a started byte is sent whole). -/
  | ctsChange (asserted lastStarted : Bool)
  /-- HELLO: `b` completes a good HELLO (R160, R165). -/
  | hello (p : Port) (b : Byte)
  /-- REQUEST: `b` completes a good REQUEST (R24). -/
  | request (p : Port) (b : Byte)
  /-- POST: `b` completes a good POST (R27). -/
  | post (p : Port) (b : Byte)
  /-- REPLY: `b` completes a good REPLY (R50). -/
  | reply (p : Port) (b : Byte)
  /-- EXTEND: `b` completes a good EXTEND (R55). -/
  | extend (p : Port) (b : Byte)
  /-- CANCEL: `b` completes a good CANCEL (R60). -/
  | cancel (p : Port) (b : Byte)
  /-- DRAW_WINDOW: `b` completes a good DRAW_WINDOW (R124, R125). -/
  | drawWindow (p : Port) (b : Byte)
  /-- DRAW_PIXELS: `b` completes a good DRAW_PIXELS (R124, R126). -/
  | drawPixels (p : Port) (b : Byte)
  /-- UNKNOWN_REQUEST: `b` completes a good CONTROL whose request code is none of the table's (R173). -/
  | unknownRequest (p : Port) (b : Byte)
  /-- QUERY_LINK: `b` completes a good CONTROL of code 0x01 (R175). -/
  | queryLink (p : Port) (b : Byte)
  /-- QUERY_CHANNEL: `b` completes a good CONTROL of code 0x02 (R176). -/
  | queryChannel (p : Port) (b : Byte)
  /-- QUERY_SESSION: `b` completes a good CONTROL of code 0x03 (R177). -/
  | querySession (p : Port) (b : Byte)
  /-- QUERY_NOTICES: `b` completes a good CONTROL of code 0x04 (R184). -/
  | queryNotices (p : Port) (b : Byte)
  /-- SET_NOTICE_MASK: `b` completes a good CONTROL of code 0x05 (R183). -/
  | setNoticeMask (p : Port) (b : Byte)
  /-- HOLD: `b` completes a good CONTROL of code 0x10 (R9, R178). -/
  | hold (p : Port) (b : Byte)
  /-- RELEASE: `b` completes a good CONTROL of code 0x11 (R9, R178). -/
  | release (p : Port) (b : Byte)
  /-- SET_BAR: `b` completes a good CONTROL of code 0x12 (R15, R179). -/
  | setBar (p : Port) (b : Byte)
  /-- CLEAR_BAR: `b` completes a good CONTROL of code 0x13 (R15, R179). -/
  | clearBar (p : Port) (b : Byte)
  /-- WRITE_CHANNEL: `b` completes a good CONTROL of code 0x20 (R88). -/
  | writeChannel (p : Port) (b : Byte)
  /-- REMOVE_CHANNEL: `b` completes a good CONTROL of code 0x21 (R89). -/
  | removeChannel (p : Port) (b : Byte)
  /-- WRITE_SETTINGS: `b` completes a good CONTROL of code 0x22 (R90). -/
  | writeSettings (p : Port) (b : Byte)
  /-- COPY_AREA: `b` completes a good CONTROL of code 0x23 (R91). -/
  | copyArea (p : Port) (b : Byte)
  /-- ACTIVATE: `b` completes a good CONTROL of code 0x24 (R93). -/
  | activate (p : Port) (b : Byte)
  /-- FULL_CLEAR: `b` completes a good CONTROL of code 0x25 (R100). -/
  | fullClear (p : Port) (b : Byte)
  /-- OPEN_SESSION: `b` completes a good CONTROL of code 0x30 (R106, R107). -/
  | openSession (p : Port) (b : Byte)
  /-- CLOSE_SESSION: `b` completes a good CONTROL of code 0x31 (R112). -/
  | closeSession (p : Port) (b : Byte)
  /-- TOUCH_RESTART: `b` completes a good CONTROL of code 0x32 (R145). -/
  | touchRestart (p : Port) (b : Byte)
  /-- TRANSMISSION_COMPLETE: the frame in transmission on the link of `p` completes (R83). -/
  | transmissionComplete (p : Port)
  /-- GAP_WAIT_END: the gap of channel number `c` ends (R34). -/
  | gapWaitEnd (c : Nat)
  /-- LAST_FORWARD_TIME_EXPIRY: the last forward time of channel number `c` is 255 ms old (R35). -/
  | lastForwardTimeExpiry (c : Nat)
  /-- REFILL: the refill timer of channel number `c` expires (R31). -/
  | refill (c : Nat)
  /-- DEADLINE: the deadline of the FORWARDED entry of index `e` is reached (R57). -/
  | deadline (e : Nat)
  /-- STALL: the stall timer of the link of `p` expires (R168). -/
  | stall (p : Port)
  /-- SESSION_LIMIT_EXPIRY: the session limit is reached (R111). -/
  | sessionLimitExpiry
  /-- RUN_COMPLETE: the run in progress on the panel link completes (R137). -/
  | runComplete
  /-- ATTENTION_ASSERT: the touch attention input is asserted (R142). -/
  | attentionAssert
  /-- TOUCH_READ_NACK: the touch controller does not acknowledge its address or the report index (R143). -/
  | touchReadNack
  /-- TOUCH_READ_COMPLETE: the 11 report bytes have been received (R142). -/
  | touchReadComplete (report : List Byte)
  /-- TIME_BASE_TICK: one millisecond passes (R22). -/
  | timeBaseTick
  /-- ATTENTION_RELEASE: the touch attention input is released (R142). -/
  | attentionRelease
  /-- CONTROL_MALFORMED: `b` completes a good CONTROL whose body is shorter than 2 bytes (R171). -/
  | controlMalformed (p : Port) (b : Byte)
  /-- RECEIVE_ASSEMBLY_BYTE: the byte `b` arrives on the link of `p` (R158). -/
  | receiveAssemblyByte (p : Port) (b : Byte)
  deriving DecidableEq, Repr

end Sys2Proof
end

