-- ==== Sys2Proof/Decode.lean ====
section
/-! DEFINITION. The command a word spells by the bits of spec/opcode_table.json. No row of the table gives bits (every
"fields" list is empty and no row has a match or a mask): the commands are events of the part's five connections, not
words, so no word spells one. The bytes of the domain links are decoded by receive assembly (Machine/Receive.lean) and the
bodies of frames by the readers of Machine/Operands.lean. -/

namespace Sys2Proof

/-- No row of the table gives bits: a word spells no command. -/
def decodeTableWord (_nbits _w : Nat) : Option Instr := none

end Sys2Proof
end

