-- ==== Sys2Proof/Config.lean ====
section
/-! DEFINITION. What the manual leaves to the board: the levels that the two level inputs have before the first command
moves them. The manual gives no other choice to an implementation and leaves no result undefined, so there is no free
value here (NOTES.md, Assumptions). -/

namespace Sys2Proof.Config

/-- DESIGN CHOICE (log entry 1, unsafe): the radio link's CTS input is asserted until a CTS_CHANGE says otherwise. The
manual gives the level of an input no reset value. -/
def ctsAtStart : Bool := true

/-- DESIGN CHOICE (log entry 1, unsafe): the touch attention input is released until an ATTENTION_ASSERT. -/
def attentionAtStart : Bool := false

end Sys2Proof.Config
end

