-- ==== Sys2Proof/Machine/State.lean ====
section
/-! DEFINITION. The state of the part: every register, queue, table, timer and pin the manual gives it, as plain data, and
the queue of commands waiting. Block by block, in the order of the manual's block overview. -/

namespace Sys2Proof.Machine

/-! ## Things kept once per port -/

/-- One value for each domain port. -/
structure PerPort (α : Type) where
  ad : α
  pd : α
  rd : α
  deriving DecidableEq, Repr

/-- The value of port `p`. -/
def PerPort.get {α : Type} (v : PerPort α) : Port → α
  | .ad => v.ad
  | .pd => v.pd
  | .rd => v.rd

/-- The same values with `x` for port `p`. -/
def PerPort.set {α : Type} (v : PerPort α) (p : Port) (x : α) : PerPort α :=
  match p with
  | .ad => { v with ad := x }
  | .pd => { v with pd := x }
  | .rd => { v with rd := x }

/-- A channel number: the element `i` stands for the number `i + 1`, so the 48 elements are the numbers 1..48. -/
abbrev Chn := Fin 48

/-- The index of an exchange entry, 0..31. -/
abbrev EntryIx := Fin 32

/-! ## Policy store (R85, R86; the channel record of the chapter on channels) -/

/-- Egress class of a channel. -/
inductive EgressClass where
  | payment
  | radio
  | app
  deriving DecidableEq, Repr

/-- Which message types a channel carries. -/
inductive MsgTypes where
  | requests
  | posts
  | both
  deriving DecidableEq, Repr

/-- Order within a class at egress (R79, R80). -/
inductive EgressMode where
  | fixed
  | rotating
  deriving DecidableEq, Repr

/-- The two policy areas. -/
inductive AreaId where
  | a
  | b
  deriving DecidableEq, Repr

/-- The record of a present channel. `kinds` has place k set where kind k is in the KindSet; the times are in the units of
the manual (RefillPeriod in 10 ms steps, the others in ms). -/
structure ChannelRecord where
  owner : Port
  peer : Port
  cls : EgressClass
  types : MsgTypes
  kinds : Half
  maxSize : Nat
  creditBase : Nat
  refillPeriod : Nat
  gap : Nat
  maxOutstanding : Nat
  responseLimit : Nat
  extendStep : Nat
  maxExtends : Nat
  retries : Nat
  autoHold : Bool
  barOnTimeout : Bool
  quietInSession : Bool
  deriving DecidableEq, Repr

/-- EgressMode and StallLimit (10 ms steps) of one port. -/
structure PortSettings where
  mode : EgressMode
  stallLimit : Nat
  deriving DecidableEq, Repr

/-- A policy area: 48 record positions, each absent or holding a record, and one set of port settings. -/
structure Area where
  recs : Vector (Option ChannelRecord) 48
  settings : PerPort PortSettings
  bannerRows : Nat
  deriving DecidableEq, Repr

/-- The policy store (R85). -/
structure Policy where
  areaA : Area
  areaB : Area
  active : AreaId
  pendingSwitch : Option AreaId
  deriving DecidableEq, Repr

/-- The default contents of an area (R85). -/
def Area.default : Area :=
  { recs := Vector.replicate 48 none
    settings := { ad := ⟨.fixed, 50⟩, pd := ⟨.fixed, 50⟩, rd := ⟨.fixed, 50⟩ }
    bannerRows := 0 }

/-! ## Channel engine: the runtime record of each number (R5, R17, R19, R59) -/

/-- A post waiting in a forward queue. `blocks` are charged to `sender`; `peer` is the port it goes to. -/
structure PostItem where
  sender : Port
  peer : Port
  label : Byte
  kind : Fin 16
  payload : List Byte
  blocks : Nat
  deriving DecidableEq, Repr

/-- An item of a forward queue (R17): a request is held in its exchange entry. -/
inductive FwdItem where
  | request (e : EntryIx)
  | post (m : PostItem)
  deriving DecidableEq, Repr

/-- The payload and result byte of a DELIVERED reply, in blocks charged to the responder. -/
structure ReplyFrame where
  result : Byte
  payload : List Byte
  blocks : Nat
  deriving DecidableEq, Repr

/-- An item of a return queue (R19): the reply of entry `e`, with no frame for a part-made ending. -/
structure RetItem where
  entry : EntryIx
  frame : Option ReplyFrame
  deriving DecidableEq, Repr

/-- The runtime of one channel number. Forced HOLD and effective HOLD are derived (R8). `retries` lists the entries waiting
as retries in the order in which they became so (R49); `refillAt` is the next expiry of the refill timer, absent while the
timer is stopped (R31). `lastRefill` is the time of the latest expiry of that timer, absent where none has come since an area switch or
FULL_CLEAR set the credit: an admission in that millisecond leaves the credit at CreditBase (R31; log entry 19). -/
structure Chan where
  credit : Nat
  ownHold : Bool
  bar : Bool
  outstanding : Nat
  fwd : List FwdItem
  retries : List EntryIx
  ret : List RetItem
  lastForward : Option Time
  refillAt : Option Time
  lastRefill : Option Time
  deriving DecidableEq, Repr

/-- The initial values of R5. -/
def Chan.initial : Chan :=
  { credit := 0, ownHold := false, bar := false, outstanding := 0, fwd := [], retries := [], ret := [],
    lastForward := none, refillAt := none, lastRefill := none }

/-! ## Exchange table (R42, R44, R46) -/

/-- State of an exchange entry. -/
inductive EntryState where
  | free
  | queued
  | forwarded
  | replying
  deriving DecidableEq, Repr

/-- The statuses of a reply frame (R65). -/
inductive Status where
  | delivered
  | illegal
  | barred
  | busy
  | absent
  | nospace
  | budget
  | timeout
  | cancelled
  | restarted
  | revoked
  deriving DecidableEq, Repr

/-- The six fields copied from the channel record at admission (R3). -/
structure Snapshot where
  responseLimit : Nat
  extendStep : Nat
  maxExtends : Nat
  retries : Nat
  autoHold : Bool
  barOnTimeout : Bool
  deriving DecidableEq, Repr

/-- The payload of a request, in blocks charged to the requester. -/
structure ReqFrame where
  payload : List Byte
  blocks : Nat
  deriving DecidableEq, Repr

/-- An exchange entry. The index is its place in the table. -/
structure Entry where
  gen : Nat
  st : EntryState
  chan : Chn
  requester : Port
  tag : Option Byte
  responder : Port
  kind : Fin 16
  attempt : Nat
  fwdOnce : Bool
  deadline : Option Time
  extCount : Nat
  snap : Snapshot
  req : Option ReqFrame
  status : Option Status
  withdraw : Bool
  deriving DecidableEq, Repr

/-- A free entry of generation `g`. The fields that carry no meaning while an entry is free (R42) stand at fixed values. -/
def Entry.freed (g : Nat) : Entry :=
  { gen := g, st := .free, chan := 0, requester := .ad, tag := none, responder := .ad, kind := 0, attempt := 0,
    fwdOnce := false, deadline := none, extCount := 0, snap := ⟨0, 0, 0, 0, false, false⟩, req := none, status := none,
    withdraw := false }

/-! ## Domain link units (R154, R155, R158, R165) -/

/-- State of a domain link. -/
inductive LinkState where
  | down
  | up
  | stalled
  deriving DecidableEq, Repr

/-- The frame types a domain sends (R157). -/
inductive FrameType where
  | hello
  | request
  | post
  | reply
  | extend
  | cancel
  | control
  | drawWindow
  | drawPixels
  deriving DecidableEq, Repr

/-- Where a frame being received is held: in blocks charged to its port (R37), with its header in a reserve block and its
body unstored (R38, R39), dropped because no reserve block was free (R38), or received without charge on a link that is not
UP (R37). -/
inductive RxHold where
  | charged (blocks : Nat)
  | reserve
  | dropped
  | uncharged
  deriving DecidableEq, Repr

/-- A frame whose header is complete: type, body length, where it is held, body bytes received, the bytes stored (a charged
frame's), the first body byte (R38: a NOSPACE verdict gives the channel) and the running CRC of R156. -/
structure RxFrame where
  ty : FrameType
  len : Nat
  hold : RxHold
  got : Nat
  body : List Byte
  first : Option Byte
  crc : Half
  deriving DecidableEq, Repr

/-- Receive assembly (R158). Each state but HUNT keeps the arrival time `seen` of the latest byte (R159). `late` is HUNT in
the millisecond of a stall that has discarded the frame `f`, which lacked only its second CRC byte (R169): that byte, where it
falls together with the stall, still makes it a good frame (R170; log entry 18). -/
inductive Rx where
  | hunt
  | late (f : RxFrame) (hi : Byte)
  | type (seen : Time)
  | length1 (ty : FrameType) (seen : Time)
  | length2 (ty : FrameType) (lo : Byte) (seen : Time)
  | body (f : RxFrame) (seen : Time)
  | crc1 (f : RxFrame) (seen : Time)
  | crc2 (f : RxFrame) (hi : Byte) (seen : Time)
  deriving DecidableEq, Repr

/-- A domain link unit. `reserve` counts the verdict reserve blocks in use (0..2), `stall` is the expiry of the stall timer,
absent while it is stopped, `ready` the ready line of an SPI link, `dataOut` the byte presented for the last byte clocked. -/
structure Link where
  state : LinkState
  rx : Rx
  errors : Nat
  reserve : Nat
  stall : Option Time
  ready : Bool
  dataOut : Byte
  deriving DecidableEq, Repr

/-- A link unit after power-on reset (R165). -/
def Link.initial : Link :=
  { state := .down, rx := .hunt, errors := 0, reserve := 0, stall := none, ready := false, dataOut := 0x00#8 }

/-- The radio link's own signals (R155): the CTS input, whether the last CRC byte of the frame in transmission had been
started at the latest CTS_CHANGE, and the RTS output. -/
structure Radio where
  cts : Bool
  lastStarted : Bool
  rts : Bool
  deriving DecidableEq, Repr

/-! ## Egress arbiters (R70, R73) -/

/-- The verdict reasons (R164). -/
inductive Reason where
  | malformed
  | duplicateTag
  | illegal
  | barred
  | busy
  | absent
  | budget
  | nospace
  | full
  | badWindow
  | notPermitted
  | stale
  | notFound
  | oversize
  | revoked
  deriving DecidableEq, Repr

/-- The statuses of a CONTROL_REPLY (R164). -/
inductive CtlStatus where
  | done
  | denied
  | badarg
  | busy
  | inuse
  | notOpen
  | unknown
  deriving DecidableEq, Repr

/-- A frame of an internal part-frame queue (R73): what it says. A verdict quotes the type code of the refused frame and
the identifying fields given. -/
inductive PartFrame where
  | verdict (why : Reason) (refused : Byte) (ids : List Byte)
  | refusal (chan tag : Byte) (kind : Fin 16) (status : Status)
  | controlReply (code tag : Byte) (status : CtlStatus) (result : List Byte)
  | helloReply (event : Byte) (errors : Nat)
  | notice
  | withdraw (e : EntryIx)
  deriving DecidableEq, Repr

/-- The block a part frame occupies (R73): the first block of the frame it answers, charged to the port; a reserve block of
the port; or a block of the internal pool. -/
inductive BlockRef where
  | charged
  | reserve
  | pool
  deriving DecidableEq, Repr

/-- An item of an internal part-frame queue. -/
structure IFrame where
  what : PartFrame
  block : BlockRef
  deriving DecidableEq, Repr

/-- Blocks charged to a port and still to be released. -/
structure Held where
  port : Port
  blocks : Nat
  deriving DecidableEq, Repr

/-- The source of a frame in transmission (R83), with what its end releases. `dropped` marks a reply whose exchange a
restart teardown has dropped (R67, R82); `ended` holds the request blocks of an exchange that ended while its forward was
in transmission (R40). -/
inductive TxSource where
  | part (block : BlockRef)
  | notice
  | withdraw (e : EntryIx)
  | touch
  | reply (e : EntryIx) (held : Option Held) (dropped : Bool)
  | forward (e : EntryIx) (ended : Option Held)
  | post (held : Held)
  deriving DecidableEq, Repr

/-- A frame in transmission: type code, body, bytes presented so far on an SPI link, source. -/
structure Tx where
  ty : Byte
  body : List Byte
  sent : Nat
  source : TxSource
  deriving DecidableEq, Repr

/-- The rotation pointers of one step, one for each class (R70). -/
structure Pointers where
  payment : Option Chn
  radio : Option Chn
  app : Option Chn
  deriving DecidableEq, Repr

/-- All three pointers absent. -/
def Pointers.none : Pointers := { payment := .none, radio := .none, app := .none }

/-- An egress arbiter (R70): frame in transmission, internal part-frame queue, pointers of step 3 and of step 4. -/
structure Arbiter where
  tx : Option Tx
  iq : List IFrame
  ptr3 : Pointers
  ptr4 : Pointers
  deriving DecidableEq, Repr

/-- An egress arbiter after power-on reset (R70). -/
def Arbiter.initial : Arbiter := { tx := none, iq := [], ptr3 := .none, ptr4 := .none }

/-! ## Session controller (R104, R105) -/

/-- State of the session. -/
inductive SessState where
  | idle
  | opening
  | active
  | closing
  deriving DecidableEq, Repr

/-- A close, with blank and its colour or without blank (R112: a close without blank takes no colour). -/
inductive Close where
  | blank (colour : Half)
  | plain
  deriving DecidableEq, Repr

/-- The fill rows still to be blanked: the next and the last (R105, R115). -/
structure FillProgress where
  next : Nat
  last : Nat
  deriving DecidableEq, Repr

/-- A rectangle of the panel, both ends inclusive. -/
structure Rect where
  x0 : Nat
  x1 : Nat
  y0 : Nat
  y1 : Nat
  deriving DecidableEq, Repr

/-- The session record (R105). -/
structure SessRecord where
  rect : Rect
  capture : Bool
  limit : Nat
  openColour : Option Half
  start : Option Time
  closeReq : Option Close
  fill : Option FillProgress
  fillColour : Option Half
  deriving DecidableEq, Repr

/-- The session controller (R104). `limitAt` is the expiry of the session limit timer, absent while it is stopped. -/
structure Session where
  state : SessState
  record : Option SessRecord
  secureInd : Bool
  limitAt : Option Time
  deriving DecidableEq, Repr

/-- The session controller after power-on reset (R104). -/
def Session.initial : Session := { state := .idle, record := none, secureInd := false, limitAt := none }

/-! ## Display filter and panel arbiter (R123, R133) -/

/-- The two domains that draw and own contacts. RD has no draw state and no touch queue (R123, R141). -/
inductive Screen where
  | ad
  | pd
  deriving DecidableEq, Repr

/-- One value for AD and one for PD. -/
structure PerScreen (α : Type) where
  ad : α
  pd : α
  deriving DecidableEq, Repr

/-- The value of `x`. -/
def PerScreen.get {α : Type} (v : PerScreen α) : Screen → α
  | .ad => v.ad
  | .pd => v.pd

/-- The same values with `y` for `x`. -/
def PerScreen.set {α : Type} (v : PerScreen α) (x : Screen) (y : α) : PerScreen α :=
  match x with
  | .ad => { v with ad := y }
  | .pd => { v with pd := y }

/-- Order of a window and direction of a run. -/
inductive Order where
  | row
  | column
  deriving DecidableEq, Repr

/-- A drawing window. -/
structure Window where
  rect : Rect
  order : Order
  deriving DecidableEq, Repr

/-- The window of power-on reset and of a teardown: the whole panel, in ROW order (R123, R138). -/
def Window.default : Window := { rect := ⟨0, 319, 0, 239⟩, order := .row }

/-- A frame of a draw queue, with its blocks, charged to its source. -/
inductive DrawFrame where
  | window (w : Window) (blocks : Nat)
  | pixels (px : List Half) (blocks : Nat)
  deriving DecidableEq, Repr

/-- The draw state of one source (R123). -/
structure Draw where
  queue : List DrawFrame
  window : Window
  cx : Nat
  cy : Nat
  next : Option Nat
  deriving DecidableEq, Repr

/-- The draw state after power-on reset (R123). -/
def Draw.initial : Draw := { queue := [], window := .default, cx := 0, cy := 0, next := none }

/-- The source of a run. -/
inductive RunSource where
  | frame (x : Screen)
  | fill
  deriving DecidableEq, Repr

/-- The run in progress (R133): its count is the number of its pixels. `last` holds the frame's blocks where the run is the
last of its frame, and is absent otherwise. -/
structure Run where
  source : RunSource
  x : Nat
  y : Nat
  dir : Order
  pixels : List Half
  last : Option Nat
  deriving DecidableEq, Repr

/-! ## Touch router (R141) -/

/-- State of the touch link. -/
inductive TouchLink where
  | idle
  | reading
  | fault
  deriving DecidableEq, Repr

/-- Kind of a touch event. -/
inductive TouchKind where
  | down
  | move
  | up
  deriving DecidableEq, Repr

/-- A touch event (R147). -/
structure TouchEvent where
  kind : TouchKind
  slot : Fin 2
  px : Nat
  py : Nat
  time : Time
  deriving DecidableEq, Repr

/-- A present entry of the contact table: its owner (`none`: no port) and the coordinates of its last event. -/
structure Contact where
  owner : Option Screen
  px : Nat
  py : Nat
  deriving DecidableEq, Repr

/-- The touch router, with the level of the attention input. -/
structure Touch where
  link : TouchLink
  failures : Nat
  slot0 : Option Contact
  slot1 : Option Contact
  queues : PerScreen (List TouchEvent)
  attention : Bool
  deriving DecidableEq, Repr

/-! ## Notice unit (R180) -/

/-- State of a port's one NOTICE. -/
inductive NoticeState where
  | none
  | waiting
  | sending
  deriving DecidableEq, Repr

/-- The notice unit of one port: mask and pending set as the 16-bit fields of R164, NOTICE state, and `again` for "repeat". -/
structure Notice where
  mask : Half
  set : Half
  st : NoticeState
  again : Bool
  deriving DecidableEq, Repr

/-- The notice unit after power-on reset (R180). -/
def Notice.initial : Notice := { mask := 0#16, set := 0#16, st := .none, again := false }

/-! ## The whole part -/

/-- The state of the part. `pending` is the queue of commands waiting, first in, first out; `charged` the blocks of the
message buffer charged to each port (R37). -/
structure State where
  pending : List Instr
  time : Time
  links : PerPort Link
  radio : Radio
  charged : PerPort Nat
  arbs : PerPort Arbiter
  policy : Policy
  chans : Vector Chan 48
  exch : Vector Entry 32
  session : Session
  draws : PerScreen Draw
  run : Option Run
  touch : Touch
  notices : PerPort Notice
  deriving DecidableEq, Repr

/-- No command of this part faults: the manual names no event that stops it, and an event that cannot take place in a state
leaves the state as it is (log entry 2). The type has no value; safe. -/
inductive Fault where
  deriving DecidableEq, Repr

/-- Reasons for refusing a command. -/
inductive Refusal where
  /-- Raised by an arm of `exec` whose command has no meaning yet. No arm raises it in this model; safe. -/
  | notModelled (mnemonic : String)
  deriving DecidableEq, Repr

/-- The machine right after power-on reset, with no command waiting (R5, R22, R42, R70, R85, R104, R123, R133, R141, R165,
R180). The two input levels are those of Config (log entry 1); where the attention input is asserted at the release of reset a
read begins at once (R141). -/
def State.reset : State :=
  { pending := []
    time := 0#32
    links := ⟨.initial, .initial, .initial⟩
    radio := { cts := Config.ctsAtStart, lastStarted := false, rts := true }
    charged := ⟨0, 0, 0⟩
    arbs := ⟨.initial, .initial, .initial⟩
    policy := { areaA := .default, areaB := .default, active := .a, pendingSwitch := none }
    chans := Vector.replicate 48 .initial
    exch := Vector.replicate 32 (.freed 0)
    session := .initial
    draws := ⟨.initial, .initial⟩
    run := none
    touch := { link := if Config.attentionAtStart then .reading else .idle, failures := 0, slot0 := none, slot1 := none,
               queues := ⟨[], []⟩, attention := Config.attentionAtStart }
    notices := ⟨.initial, .initial, .initial⟩ }

/-- The outcome of a command. -/
abbrev Result := Host.Outcome State Fault Refusal

/-! ## Access to the parts of the state -/

namespace State

/-- The link unit of `p`. -/
def link (s : State) (p : Port) : Link := s.links.get p
/-- The egress arbiter of `p`. -/
def arb (s : State) (p : Port) : Arbiter := s.arbs.get p
/-- The notice unit of `p`. -/
def notice (s : State) (p : Port) : Notice := s.notices.get p
/-- The blocks charged to `p`. -/
def chargedTo (s : State) (p : Port) : Nat := s.charged.get p
/-- The runtime of channel number `c`. -/
def chan (s : State) (c : Chn) : Chan := s.chans.get c
/-- The exchange entry of index `e`. -/
def entry (s : State) (e : EntryIx) : Entry := s.exch.get e
/-- The draw state of `x`. -/
def draw (s : State) (x : Screen) : Draw := s.draws.get x
/-- The touch queue of `x`. -/
def touchQueue (s : State) (x : Screen) : List TouchEvent := s.touch.queues.get x

/-- Replace the link unit of `p`. -/
def setLink (s : State) (p : Port) (v : Link) : State := { s with links := s.links.set p v }
/-- Replace the egress arbiter of `p`. -/
def setArb (s : State) (p : Port) (v : Arbiter) : State := { s with arbs := s.arbs.set p v }
/-- Replace the notice unit of `p`. -/
def setNotice (s : State) (p : Port) (v : Notice) : State := { s with notices := s.notices.set p v }
/-- Replace the blocks charged to `p`. -/
def setCharged (s : State) (p : Port) (n : Nat) : State := { s with charged := s.charged.set p n }
/-- Replace the runtime of channel number `c`. -/
def setChan (s : State) (c : Chn) (v : Chan) : State := { s with chans := s.chans.set c.val v c.isLt }
/-- Replace the exchange entry of index `e`. -/
def setEntry (s : State) (e : EntryIx) (v : Entry) : State := { s with exch := s.exch.set e.val v e.isLt }
/-- Replace the draw state of `x`. -/
def setDraw (s : State) (x : Screen) (v : Draw) : State := { s with draws := s.draws.set x v }
/-- Replace the run in progress. -/
def setRun (s : State) (v : Option Run) : State := { s with run := v }
/-- Replace the session controller's state. -/
def setSession (s : State) (v : Session) : State := { s with session := v }
/-- Replace the touch router's state. -/
def setTouch (s : State) (v : Touch) : State := { s with touch := v }
/-- Replace the touch queue of `x`. -/
def setTouchQueue (s : State) (x : Screen) (q : List TouchEvent) : State :=
  { s with touch := { s.touch with queues := s.touch.queues.set x q } }
/-- Replace the policy store. -/
def setPolicy (s : State) (v : Policy) : State := { s with policy := v }
/-- Replace the radio link's signals. -/
def setRadio (s : State) (v : Radio) : State := { s with radio := v }
/-- Replace the time base. -/
def setTime (s : State) (t : Time) : State := { s with time := t }

end State

end Sys2Proof.Machine
end

