-- ==== Sys2Proof/Machine/Params.lean ====
section
/-! DEFINITION. The numbers and codes the manual fixes: quotas, capacities, limits, and the codes of frames, statuses,
reasons and of the fields of control requests. -/

namespace Sys2Proof.Machine

/-! ## Quotas and capacities -/

/-- Block quota of a port (R37). -/
def blockQuota : Port → Nat
  | .ad => 96
  | .pd => 128
  | .rd => 96

/-- Exchange quota of a requester (R24, R44). -/
def exchangeQuota : Port → Nat
  | .ad => 10
  | .pd => 12
  | .rd => 10

/-- Capacity of a forward queue (R17). -/
def fwdCapacity : Nat := 4
/-- Verdict reserve blocks of a port (R41). -/
def reserveBlocks : Nat := 2
/-- Capacity of a draw queue (R127). -/
def drawCapacity : Nat := 4
/-- Capacity of a touch queue (R149). -/
def touchCapacity : Nat := 8
/-- Largest payload of a request, post or reply (R24, R50). -/
def maxPayload : Nat := 1024
/-- Largest body length of the envelope (R158). -/
def maxBody : Nat := 1040
/-- Value at which the error count of a link stays (R38, R159). -/
def errorLimit : Nat := 65535
/-- Age in ms at which a last forward time becomes absent (R35). -/
def lastForwardLife : Nat := 255
/-- The inter-byte timeout: arrival time + 21 (R159). -/
def interByteLimit : Nat := 21
/-- Consecutive failed reads that put the touch link out of service (R144). -/
def failureLimit : Nat := 3

/-- Blocks of a frame with a body of `n` bytes (R36). -/
def blocksOf (n : Nat) : Nat := max 1 ((n + 63) / 64)

/-- Cost of a request or post with a payload of `l` bytes (R29). -/
def cost (l : Nat) : Nat := 1 + (l + 31) / 32

/-! ## Codes -/

/-- The sync byte (R156). -/
def syncByte : Byte := 0xC3#8
/-- The filler byte of an SPI link (R154). -/
def fillerByte : Byte := 0x00#8

/-- The type code of a frame from a domain (R157). -/
def FrameType.code : FrameType → Byte
  | .hello => 0x01#8
  | .request => 0x02#8
  | .post => 0x03#8
  | .reply => 0x04#8
  | .extend => 0x05#8
  | .cancel => 0x06#8
  | .control => 0x07#8
  | .drawWindow => 0x08#8
  | .drawPixels => 0x09#8

/-- The frame type of a type code, where it is one of the nine (R157, R158). -/
def frameTypeOf (b : Byte) : Option FrameType :=
  match b.toNat with
  | 1 => some .hello
  | 2 => some .request
  | 3 => some .post
  | 4 => some .reply
  | 5 => some .extend
  | 6 => some .cancel
  | 7 => some .control
  | 8 => some .drawWindow
  | 9 => some .drawPixels
  | _ => none

/-- Type codes of the frames the part sends (R157). -/
def codeHelloReply : Byte := 0x81#8
def codeFwdRequest : Byte := 0x82#8
def codeFwdPost : Byte := 0x83#8
def codeReplyOut : Byte := 0x84#8
def codeWithdraw : Byte := 0x85#8
def codeVerdict : Byte := 0x86#8
def codeControlReply : Byte := 0x87#8
def codeNotice : Byte := 0x88#8
def codeTouch : Byte := 0x89#8

/-- Port code (R163, R174). -/
def portCode : Port → Byte
  | .ad => 1#8
  | .pd => 2#8
  | .rd => 3#8

/-- The port of a port code (R174). -/
def portOf (b : Byte) : Option Port :=
  match b.toNat with
  | 1 => some .ad
  | 2 => some .pd
  | 3 => some .rd
  | _ => none

/-- Area code (R174). -/
def areaCode : AreaId → Byte
  | .a => 1#8
  | .b => 2#8

/-- The area of an area code (R174). -/
def areaOf (b : Byte) : Option AreaId :=
  match b.toNat with
  | 1 => some .a
  | 2 => some .b
  | _ => none

/-- Class code (R174). -/
def classCode : EgressClass → Byte
  | .payment => 0#8
  | .radio => 1#8
  | .app => 2#8

/-- The class of a class code (R174). -/
def classOf (b : Byte) : Option EgressClass :=
  match b.toNat with
  | 0 => some .payment
  | 1 => some .radio
  | 2 => some .app
  | _ => none

/-- Types code (R174). -/
def typesCode : MsgTypes → Byte
  | .requests => 0#8
  | .posts => 1#8
  | .both => 2#8

/-- The types of a Types code (R174). -/
def typesOf (b : Byte) : Option MsgTypes :=
  match b.toNat with
  | 0 => some .requests
  | 1 => some .posts
  | 2 => some .both
  | _ => none

/-- EgressMode code (R174). -/
def modeCode : EgressMode → Byte
  | .fixed => 0#8
  | .rotating => 1#8

/-- The mode of an EgressMode code (R174). -/
def modeOf (b : Byte) : Option EgressMode :=
  match b.toNat with
  | 0 => some .fixed
  | 1 => some .rotating
  | _ => none

/-- The order of an order code (R162). -/
def orderOf (b : Byte) : Option Order :=
  match b.toNat with
  | 0 => some .row
  | 1 => some .column
  | _ => none

/-- Status code of a reply to a requester (R163). -/
def Status.code : Status → Nat
  | .delivered => 0
  | .illegal => 1
  | .barred => 2
  | .busy => 3
  | .absent => 4
  | .nospace => 5
  | .budget => 6
  | .timeout => 7
  | .cancelled => 8
  | .restarted => 9
  | .revoked => 10

/-- Reason code of a verdict (R164). -/
def Reason.code : Reason → Byte
  | .malformed => 1#8
  | .duplicateTag => 2#8
  | .illegal => 3#8
  | .barred => 4#8
  | .busy => 5#8
  | .absent => 6#8
  | .budget => 7#8
  | .nospace => 8#8
  | .full => 9#8
  | .badWindow => 10#8
  | .notPermitted => 11#8
  | .stale => 12#8
  | .notFound => 13#8
  | .oversize => 14#8
  | .revoked => 15#8

/-- Status code of a CONTROL_REPLY (R164). -/
def CtlStatus.code : CtlStatus → Byte
  | .done => 0#8
  | .denied => 1#8
  | .badarg => 2#8
  | .busy => 3#8
  | .inuse => 4#8
  | .notOpen => 5#8
  | .unknown => 6#8

/-- Link state code (R175). -/
def LinkState.code : LinkState → Byte
  | .down => 0#8
  | .up => 1#8
  | .stalled => 2#8

/-- Session state code (R177). -/
def SessState.code : SessState → Byte
  | .idle => 0#8
  | .opening => 1#8
  | .active => 2#8
  | .closing => 3#8

/-- Touch link state code (R174). -/
def TouchLink.code : TouchLink → Byte
  | .idle => 0#8
  | .reading => 1#8
  | .fault => 2#8

/-- Touch event kind code (R164). -/
def TouchKind.code : TouchKind → Byte
  | .down => 0#8
  | .move => 1#8
  | .up => 2#8

/-- The control requests (R172). -/
inductive Ctl where
  | queryLink
  | queryChannel
  | querySession
  | queryNotices
  | setNoticeMask
  | hold
  | release
  | setBar
  | clearBar
  | writeChannel
  | removeChannel
  | writeSettings
  | copyArea
  | activate
  | fullClear
  | openSession
  | closeSession
  | touchRestart
  deriving DecidableEq, Repr

/-- The request of a request code (R172); every other code is unknown (R173). -/
def ctlOf (b : Byte) : Option Ctl :=
  match b.toNat with
  | 0x01 => some .queryLink
  | 0x02 => some .queryChannel
  | 0x03 => some .querySession
  | 0x04 => some .queryNotices
  | 0x05 => some .setNoticeMask
  | 0x10 => some .hold
  | 0x11 => some .release
  | 0x12 => some .setBar
  | 0x13 => some .clearBar
  | 0x20 => some .writeChannel
  | 0x21 => some .removeChannel
  | 0x22 => some .writeSettings
  | 0x23 => some .copyArea
  | 0x24 => some .activate
  | 0x25 => some .fullClear
  | 0x30 => some .openSession
  | 0x31 => some .closeSession
  | 0x32 => some .touchRestart
  | _ => none

/-- Argument bytes of a request (R172). -/
def Ctl.argBytes : Ctl → Nat
  | .queryLink => 1
  | .queryChannel => 2
  | .querySession => 0
  | .queryNotices => 0
  | .setNoticeMask => 2
  | .hold => 1
  | .release => 1
  | .setBar => 1
  | .clearBar => 1
  | .writeChannel => 22
  | .removeChannel => 2
  | .writeSettings => 8
  | .copyArea => 1
  | .activate => 1
  | .fullClear => 0
  | .openSession => 14
  | .closeSession => 4
  | .touchRestart => 0

/-- The requests that only PD may make, whatever their arguments (R172). -/
def Ctl.pdOnly : Ctl → Bool
  | .queryLink => false
  | .queryChannel => false
  | .querySession => false
  | .queryNotices => false
  | .setNoticeMask => false
  | .hold => false
  | .release => false
  | .setBar => true
  | .clearBar => true
  | .writeChannel => true
  | .removeChannel => true
  | .writeSettings => true
  | .copyArea => true
  | .activate => true
  | .fullClear => true
  | .openSession => true
  | .closeSession => true
  | .touchRestart => true

/-- The nine conditions, in the order of the NOTICE field (R164, R181). -/
inductive Condition where
  | sessionChange
  | sessionExpired
  | areaSwitched
  | linkChange
  | creditRefused
  | released
  | barred
  | touchLost
  | touchFault
  deriving DecidableEq, Repr

/-- The place of a condition in the NOTICE field, as a 16-bit field with that one place set (R164). -/
def Condition.bit : Condition → Half
  | .sessionChange => 0x0001#16
  | .sessionExpired => 0x0002#16
  | .areaSwitched => 0x0004#16
  | .linkChange => 0x0008#16
  | .creditRefused => 0x0010#16
  | .released => 0x0020#16
  | .barred => 0x0040#16
  | .touchLost => 0x0080#16
  | .touchFault => 0x0100#16

/-- The nine places of the conditions; the other seven are stored as 0 (R183). -/
def conditionPlaces : Half := 0x01FF#16

/-! ## Lists of everything -/

/-- The three ports. -/
def allPorts : List Port := [.ad, .pd, .rd]
/-- The 48 channel numbers, ascending. -/
def allChns : List Chn := List.finRange 48
/-- The 32 entry indices, ascending. -/
def allEntries : List EntryIx := List.finRange 32

/-- The channel number `n`, where it lies in 1..48 (R1). -/
def chnOf (n : Nat) : Option Chn :=
  if h : 1 ≤ n ∧ n ≤ 48 then some ⟨n - 1, by omega⟩ else none

/-- The number 1..48 of a channel, as a byte. -/
def chnByte (c : Chn) : Byte := BitVec.ofNat 8 (c.val + 1)

/-- The entry of index `n`, where it lies in 0..31. -/
def entryOf (n : Nat) : Option EntryIx :=
  if h : n < 32 then some ⟨n, h⟩ else none

end Sys2Proof.Machine
end

