-- ==== Sys2Proof/Machine/Bytes.lean ====
section
/-! DEFINITION. Little-endian fields, the CRC of the envelope, the bytes of a frame on the wire, and the comparison of times. -/

namespace Sys2Proof.Machine

/-! ## Little-endian fields -/

/-- Byte `i` of a body (0 where the body is shorter; every use is guarded by a length). -/
def byteAt (l : List Byte) (i : Nat) : Byte := l.getD i 0#8

/-- The 16-bit little-endian field at offset `i`. -/
def halfAt (l : List Byte) (i : Nat) : Half := byteAt l (i + 1) ++ byteAt l i

/-- The same field as a number. -/
def natAt (l : List Byte) (i : Nat) : Nat := (halfAt l i).toNat

/-- A 16-bit field, low byte first. -/
def leHalf (h : Half) : List Byte := [h.extractLsb' 0 8, h.extractLsb' 8 8]

/-- A number as a 16-bit field, low byte first. -/
def leNat (n : Nat) : List Byte := leHalf (BitVec.ofNat 16 n)

/-- A time as a 32-bit field, low byte first. -/
def leTime (t : Time) : List Byte :=
  [t.extractLsb' 0 8, t.extractLsb' 8 8, t.extractLsb' 16 8, t.extractLsb' 24 8]

/-- A yes/no as a byte. -/
def boolByte (b : Bool) : Byte := if b then 1#8 else 0#8

/-- A count as a byte. -/
def countByte (n : Nat) : Byte := BitVec.ofNat 8 n

/-! ## The CRC (R156) -/

/-- One bit of the register: shift left, and the polynomial 0x1021 where a 1 leaves. -/
def crcShift (r : Half) : Half := if r.msb then (r <<< 1) ^^^ 0x1021#16 else r <<< 1

/-- One byte, most significant bit first. -/
def crcByte (r : Half) (b : Byte) : Half :=
  crcShift (crcShift (crcShift (crcShift (crcShift (crcShift (crcShift (crcShift (r ^^^ (b ++ 0#8)))))))))

/-- The initial value of the register. -/
def crcInit : Half := 0xFFFF#16

/-- The CRC of a list of bytes. -/
def crcOf (l : List Byte) : Half := l.foldl crcByte crcInit

/-- The high byte of a CRC, sent first. -/
def crcHigh (r : Half) : Byte := r.extractLsb' 8 8
/-- The low byte of a CRC. -/
def crcLow (r : Half) : Byte := r.extractLsb' 0 8

/-! ## The envelope (R156) -/

/-- The bytes of a frame on the wire: sync, type, length, body, CRC high byte first. -/
def wireBytes (ty : Byte) (body : List Byte) : List Byte :=
  let covered := ty :: (leNat body.length ++ body)
  let c := crcOf covered
  syncByte :: (covered ++ [crcHigh c, crcLow c])

/-- The length of a frame on the wire. -/
def wireLength (body : List Byte) : Nat := body.length + 6

/-! ## Times (R22, R23) -/

/-- The time `d` ms after `t`, modulo 2^32 (R22). -/
def after (t : Time) (d : Nat) : Time := t + BitVec.ofNat 32 d

/-- Time `a` is later than time `b` (R23). -/
def later (a b : Time) : Bool :=
  let d := (a - b).toNat
  decide (1 ≤ d) && decide (d < 2 ^ 31)

/-- Time `a` is at or later than time `b` (R23). -/
def atOrLater (a b : Time) : Bool := a == b || later a b

end Sys2Proof.Machine
end

