-- ==== Sys2Proof/Machine/Buffer.lean ====
section
/-! DEFINITION. The message buffer: charging and releasing blocks, and joining an internal part-frame queue. The buffer is
held as the count of blocks charged to each port (State.charged), each frame carrying how many it occupies; the internal pool
is counted from the frames that occupy it (log entry 3). -/

namespace Sys2Proof.Machine

/-- Charge `n` blocks to `p` (R37). -/
def charge (p : Port) (n : Nat) (s : State) : State := s.setCharged p (s.chargedTo p + n)

/-- Release `n` blocks charged to `p` (R40). -/
def release (p : Port) (n : Nat) (s : State) : State := s.setCharged p (s.chargedTo p - n)

/-- The blocks `p` has free (R37). -/
def freeBlocks (p : Port) (s : State) : Nat := blockQuota p - s.chargedTo p

/-- Take a reserve block of `p` (R38). -/
def takeReserve (p : Port) (s : State) : State := s.setLink p { s.link p with reserve := (s.link p).reserve + 1 }

/-- Release a reserve block of `p` (R38, R39). -/
def freeReserve (p : Port) (s : State) : State := s.setLink p { s.link p with reserve := (s.link p).reserve - 1 }

/-- Release the block of a part frame of `p`. A block of the internal pool is free again as its frame is gone. -/
def releaseBlock (p : Port) (b : BlockRef) (s : State) : State :=
  match b with
  | .charged => release p 1 s
  | .reserve => freeReserve p s
  | .pool => s

/-- Release blocks held for a port. -/
def releaseHeld (h : Option Held) (s : State) : State :=
  match h with
  | some h => release h.port h.blocks s
  | none => s

/-- Raise the error count of the link of `p`, which stays at 65535 (R38, R159). -/
def countError (p : Port) (s : State) : State :=
  s.setLink p { s.link p with errors := min errorLimit ((s.link p).errors + 1) }

/-- A frame joins the tail of the internal part-frame queue of `p` (R73). -/
def pushPart (p : Port) (f : IFrame) (s : State) : State :=
  s.setArb p { s.arb p with iq := (s.arb p).iq ++ [f] }

/-- Answer a frame of `n` blocks charged to `p` in its first block, releasing the others (R25, R40). -/
def answer (p : Port) (n : Nat) (f : PartFrame) (s : State) : State :=
  pushPart p { what := f, block := .charged } (release p (n - 1) s)

/-- Answer a frame of `n` blocks charged to `p` with a verdict (R25, R164). -/
def verdict (p : Port) (n : Nat) (why : Reason) (ty : FrameType) (ids : List Byte) (s : State) : State :=
  answer p n (.verdict why ty.code ids) s

/-- Blocks of the internal pool in use (R41): touch events, NOTICEs, WITHDRAWs and reserve blocks in use. -/
def poolInUse (s : State) : Nat :=
  s.touch.queues.ad.length + s.touch.queues.pd.length
    + (allPorts.filter (fun p => (s.notice p).st ≠ .none)).length
    + (allEntries.filter (fun e => (s.entry e).withdraw)).length
    + (s.link .ad).reserve + (s.link .pd).reserve + (s.link .rd).reserve

end Sys2Proof.Machine
end

