-- ==== Sys2Proof/Machine/Flags.lean ====
section
/-! DEFINITION. The condition flags of the notice unit: latching a condition, making a NOTICE (R180 to R182). -/

namespace Sys2Proof.Machine

/-- Condition `c` is in the set `h`. -/
def hasCondition (h : Half) (c : Condition) : Bool := h &&& c.bit != 0#16

/-- A NOTICE of `p` is made in a pool block and joins the tail of the internal part-frame queue (R182). -/
def makeNotice (p : Port) (s : State) : State :=
  pushPart p { what := .notice, block := .pool } (s.setNotice p { s.notice p with st := .waiting })

/-- Latch condition `c` for `p` (R181, R182): where it is newly pending and selected, a NOTICE is made in state NONE, none in
state WAITING, and repeat becomes yes in state SENDING. -/
def latch (p : Port) (c : Condition) (s : State) : State :=
  let n := s.notice p
  if hasCondition n.set c then s
  else
    let s := s.setNotice p { n with set := n.set ||| c.bit }
    if hasCondition n.mask c then
      match n.st with
      | .none => makeNotice p s
      | .waiting => s
      | .sending => s.setNotice p { s.notice p with again := true }
    else s

/-- Latch condition `c` for AD, PD and RD (R98, R100, R122). -/
def latchAll (c : Condition) (s : State) : State := latch .rd c (latch .pd c (latch .ad c s))

/-- The set of `p` holds a selected condition (R182). -/
def selectedPending (p : Port) (s : State) : Bool := (s.notice p).set &&& (s.notice p).mask != 0#16

/-- Replace the mask and, where it newly selects a pending condition in state NONE, make a NOTICE (R183). -/
def replaceMask (p : Port) (m : Half) (s : State) : State :=
  let old := s.notice p
  let m := m &&& conditionPlaces
  let s := s.setNotice p { old with mask := m }
  if (m &&& ~~~ old.mask &&& old.set != 0#16) && old.st == .none then makeNotice p s else s

/-- The transmission of a NOTICE of `p` has completed (R182): the state becomes NONE, and where repeat is yes and a selected
condition is pending, a NOTICE is made; repeat becomes no. -/
def noticeSent (p : Port) (s : State) : State :=
  let n := s.notice p
  let s := s.setNotice p { n with st := .none, again := false }
  if n.again && selectedPending p s then makeNotice p s else s

/-- A NOTICE in transmission is discarded by a stall of `p` (R182). -/
def noticeDiscarded (p : Port) (s : State) : State := s.setNotice p { s.notice p with st := .none }

/-- QUERY_NOTICES empties the set, clears repeat and removes a waiting NOTICE (R184). -/
def takeNotices (p : Port) (s : State) : State :=
  let n := s.notice p
  let s := s.setNotice p { n with set := 0#16, again := false, st := if n.st == .waiting then .none else n.st }
  if n.st == .waiting then
    s.setArb p { s.arb p with iq := (s.arb p).iq.filter (fun f => f.what != .notice) }
  else s

/-- The teardown of `p` empties mask and set and clears repeat (R185). -/
def clearNotices (p : Port) (s : State) : State :=
  s.setNotice p { s.notice p with mask := 0#16, set := 0#16, again := false }

end Sys2Proof.Machine
end

