-- ==== Sys2Proof/Machine/Operands.lean ====
section
/-! DEFINITION. The bodies of frames: how each frame type and control request is read (R161, R162, R174), with the checks
that make a body malformed, and how the part lays out what it sends (R163, R164, R174 to R177). -/

namespace Sys2Proof.Machine

/-! ## Traffic frames from a domain (R161) -/

/-- The fixed fields and payload of a REQUEST or POST. `second` is the tag or the label. -/
structure Message where
  chan : Byte
  second : Byte
  kind : Fin 16
  payload : List Byte
  deriving DecidableEq, Repr

/-- Read a REQUEST or POST body; it is malformed when shorter than four bytes, when its payload exceeds 1024 bytes or when
its kind lies outside 0..15 (R24, R27). -/
def readMessage (body : List Byte) : Option Message :=
  if body.length < 4 ∨ maxPayload + 4 < body.length then none
  else
    if h : natAt body 2 < 16 then
      some { chan := byteAt body 0, second := byteAt body 1, kind := ⟨natAt body 2, h⟩, payload := body.drop 4 }
    else none

/-- The fixed fields and payload of a REPLY. The kind byte takes no part (R50). -/
structure ReplyBody where
  chan : Byte
  xid : Byte
  result : Byte
  payload : List Byte
  deriving DecidableEq, Repr

/-- Read a REPLY body (R50). -/
def readReply (body : List Byte) : Option ReplyBody :=
  if body.length < 4 ∨ maxPayload + 4 < body.length then none
  else some { chan := byteAt body 0, xid := byteAt body 1, result := byteAt body 3, payload := body.drop 4 }

/-- Read an EXTEND body: channel number and xid (R55). -/
def readExtend (body : List Byte) : Option (Byte × Byte) :=
  if body.length = 2 then some (byteAt body 0, byteAt body 1) else none

/-- Read a CANCEL body: the tag (R60). -/
def readCancel (body : List Byte) : Option Byte :=
  if body.length = 1 then some (byteAt body 0) else none

/-- The identifying fields that lay within the body received, at most `n` (R164). -/
def idsOf (n : Nat) (body : List Byte) : List Byte := body.take n

/-! ## Draw frames (R125, R126, R162) -/

/-- A rectangle clamped to the panel (R106, R125). -/
def clampRect (x0 x1 y0 y1 : Nat) : Rect := ⟨min x0 319, min x1 319, min y0 239, min y1 239⟩

/-- A rectangle is inverted (R106, R125). -/
def Rect.inverted (r : Rect) : Bool := decide (r.x1 < r.x0) || decide (r.y1 < r.y0)

/-- The position (x, y) lies inside the rectangle. -/
def Rect.holds (r : Rect) (x y : Nat) : Bool :=
  decide (r.x0 ≤ x) && decide (x ≤ r.x1) && decide (r.y0 ≤ y) && decide (y ≤ r.y1)

/-- Read a DRAW_WINDOW body, clamped; it is malformed when its length is not 9 or its order code is neither (R125). -/
def readWindow (body : List Byte) : Option Window :=
  if body.length = 9 then
    match orderOf (byteAt body 8) with
    | some o => some { rect := clampRect (natAt body 0) (natAt body 2) (natAt body 4) (natAt body 6), order := o }
    | none => none
  else none

/-- The 16-bit values of a list of bytes, two by two. -/
def halves : List Byte → List Half
  | lo :: hi :: rest => (hi ++ lo) :: halves rest
  | _ => []

/-- Read a DRAW_PIXELS body; it is malformed when its length is 0, is odd or exceeds 1024 (R126). -/
def readPixels (body : List Byte) : Option (List Half) :=
  if body.length = 0 ∨ body.length % 2 = 1 ∨ 1024 < body.length then none else some (halves body)

/-! ## Control arguments (R162, R174) -/

/-- The arguments of a CONTROL: what follows the request code and the control tag. -/
def argsOf (body : List Byte) : List Byte := body.drop 2

/-- A colour with its given byte (0 for absent, any other value for given). -/
def optColour (given : Byte) (colour : Half) : Option Half := if given = 0#8 then none else some colour

/-- The clamps of R2. -/
def ChannelRecord.clamp (r : ChannelRecord) : ChannelRecord :=
  { r with
    responseLimit := max 1 r.responseLimit
    extendStep := max 1 r.extendStep
    maxOutstanding := min 8 (max 1 r.maxOutstanding)
    retries := min 2 r.retries
    maxExtends := min 15 r.maxExtends
    maxSize := min 1024 r.maxSize
    refillPeriod := max 1 r.refillPeriod
    creditBase := min 4095 r.creditBase }

/-- Read the record of a WRITE_CHANNEL from its 22 argument bytes, as given; `none` where Owner equals Peer or a code is
outside the defined ones (R2, R174). -/
def readRecord (a : List Byte) : Option ChannelRecord :=
  match portOf (byteAt a 2), portOf (byteAt a 3), classOf (byteAt a 4), typesOf (byteAt a 5) with
  | some o, some p, some k, some t =>
    if o = p then none
    else
      some
        { owner := o, peer := p, cls := k, types := t, kinds := halfAt a 6, maxSize := natAt a 8,
          creditBase := natAt a 10, refillPeriod := (byteAt a 12).toNat, gap := (byteAt a 13).toNat,
          maxOutstanding := (byteAt a 14).toNat, responseLimit := natAt a 15, extendStep := natAt a 17,
          maxExtends := (byteAt a 19).toNat, retries := (byteAt a 20).toNat,
          autoHold := (byteAt a 21).getLsbD 0, barOnTimeout := (byteAt a 21).getLsbD 1,
          quietInSession := (byteAt a 21).getLsbD 2 }
  | _, _, _, _ => none

/-- The flag byte of a record (R174). -/
def flagByte (b0 b1 b2 : Bool) : Byte :=
  (if b0 then 1#8 else 0#8) ||| (if b1 then 2#8 else 0#8) ||| (if b2 then 4#8 else 0#8)

/-- The 20 record bytes in the order of the WRITE_CHANNEL arguments after the channel number (R176). -/
def recordBytes (r : ChannelRecord) : List Byte :=
  [portCode r.owner, portCode r.peer, classCode r.cls, typesCode r.types] ++ leHalf r.kinds ++ leNat r.maxSize
    ++ leNat r.creditBase ++ [countByte r.refillPeriod, countByte r.gap, countByte r.maxOutstanding]
    ++ leNat r.responseLimit ++ leNat r.extendStep
    ++ [countByte r.maxExtends, countByte r.retries, flagByte r.autoHold r.barOnTimeout r.quietInSession]

/-- Read the seven settings of a WRITE_SETTINGS from its 8 argument bytes, brought into range; `none` where a mode code is
neither FIXED nor ROTATING (R90). -/
def readSettings (a : List Byte) : Option (PerPort PortSettings × Nat) :=
  match modeOf (byteAt a 1), modeOf (byteAt a 3), modeOf (byteAt a 5) with
  | some ma, some mp, some mr =>
    some
      (⟨⟨ma, max 1 (byteAt a 2).toNat⟩, ⟨mp, max 1 (byteAt a 4).toNat⟩, ⟨mr, max 1 (byteAt a 6).toNat⟩⟩,
        min 32 (byteAt a 7).toNat)
  | _, _, _ => none

/-- The seven stored values of a WRITE_SETTINGS (R174). -/
def settingsBytes (v : PerPort PortSettings) (banner : Nat) : List Byte :=
  [modeCode v.ad.mode, countByte v.ad.stallLimit, modeCode v.pd.mode, countByte v.pd.stallLimit,
   modeCode v.rd.mode, countByte v.rd.stallLimit, countByte banner]

/-- The arguments of an OPEN_SESSION (R106, R162), clamped. -/
structure OpenArgs where
  rect : Rect
  capture : Bool
  limit : Nat
  colour : Option Half
  deriving DecidableEq, Repr

/-- Read an OPEN_SESSION from its 14 argument bytes (R106, R162). -/
def readOpen (a : List Byte) : OpenArgs :=
  { rect := clampRect (natAt a 0) (natAt a 2) (natAt a 4) (natAt a 6)
    capture := byteAt a 8 != 0#8
    limit := min 600 (max 1 (natAt a 9))
    colour := optColour (byteAt a 11) (halfAt a 12) }

/-- Read a CLOSE_SESSION from its 4 argument bytes: blank, and the colour where given (R112, R162). -/
def readClose (a : List Byte) : Bool × Option Half :=
  (byteAt a 0 != 0#8, optColour (byteAt a 1) (halfAt a 2))

/-- The bytes of a rectangle as x0, x1, y0 and y1 (R174). -/
def rectBytes (r : Rect) : List Byte := leNat r.x0 ++ leNat r.x1 ++ leNat r.y0 ++ leNat r.y1

/-! ## Touch reports (R142, R143, R146) -/

/-- The raw coordinates of a report slot: `none` where its present byte is 0. -/
def rawSlot (r : List Byte) (at' : Nat) : Option (Nat × Nat) :=
  if byteAt r at' = 0#8 then none else some (natAt r (at' + 1), natAt r (at' + 3))

/-- Raw coordinates lie in 0..4095. -/
def rawInRange : Option (Nat × Nat) → Bool
  | some (x, y) => decide (x ≤ 4095) && decide (y ≤ 4095)
  | none => true

/-- A report passes the check of R143: contact count at most 2, and the coordinates of each present slot in range. -/
def goodReport (r : List Byte) : Bool :=
  decide ((byteAt r 0).toNat ≤ 2) && rawInRange (rawSlot r 1) && rawInRange (rawSlot r 6)

/-- Panel coordinates of raw ones (R146). -/
def scale (raw : Nat × Nat) : Nat × Nat := (raw.1 * 320 / 4096, raw.2 * 240 / 4096)

/-- The panel coordinates of a report's two slots. -/
def reportSlots (r : List Byte) : Option (Nat × Nat) × Option (Nat × Nat) :=
  ((rawSlot r 1).map scale, (rawSlot r 6).map scale)

/-! ## Frames the part sends (R163, R164) -/

/-- HELLO_REPLY, 7 bytes. -/
def helloReplyBody (p : Port) (event : Byte) (errors : Nat) : List Byte :=
  leNat 0x0C48 ++ [2#8, portCode p, event] ++ leNat errors

/-- A forwarded REQUEST. -/
def fwdRequestBody (chan : Byte) (xid : Nat) (kind : Fin 16) (attempt : Nat) (payload : List Byte) : List Byte :=
  [chan, countByte xid, countByte kind.val, countByte attempt] ++ payload

/-- A forwarded POST: the body of the POST as received. -/
def fwdPostBody (chan label : Byte) (kind : Fin 16) (payload : List Byte) : List Byte :=
  [chan, label] ++ leNat kind.val ++ payload

/-- A REPLY to the requester. -/
def replyBody (chan tag : Byte) (kind : Fin 16) (status : Status) (result : Byte) (payload : List Byte) : List Byte :=
  [chan, tag, countByte (kind.val + 16 * status.code), result] ++ payload

/-- A VERDICT, 5 bytes; an identifying field not given is sent as 0. -/
def verdictBody (why : Reason) (refused : Byte) (ids : List Byte) : List Byte :=
  [why.code, refused, countByte ids.length, byteAt ids 0, byteAt ids 1]

/-- A CONTROL_REPLY. -/
def controlReplyBody (code tag : Byte) (status : CtlStatus) (result : List Byte) : List Byte :=
  [code, tag, status.code] ++ result

/-- A TOUCH, 10 bytes. -/
def touchBody (ev : TouchEvent) : List Byte :=
  [ev.kind.code, countByte ev.slot.val] ++ leNat ev.px ++ leNat ev.py ++ leTime ev.time

end Sys2Proof.Machine
end

