-- ==== Sys2Proof/Machine/Ops.lean ====
section
/-! DEFINITION. The shared operations on channels and exchanges: the record in force, HOLD, ending an exchange, WITHDRAWs,
freeing entries, BAR. Every operation is a total function on states; what a command does is written over these. -/

namespace Sys2Proof.Machine

/-! ## The policy in force -/

/-- The contents of an area (R85). -/
def areaOfId (s : State) : AreaId → Area
  | .a => s.policy.areaA
  | .b => s.policy.areaB

/-- The active area (R85). -/
def activeArea (s : State) : Area := areaOfId s s.policy.active

/-- The record of `c` in the active area, absent where the number is (R1). -/
def recordOf (s : State) (c : Chn) : Option ChannelRecord := (activeArea s).recs.get c

/-- The settings of `p` in the active area (R86). -/
def settingsOf (s : State) (p : Port) : PortSettings := (activeArea s).settings.get p

/-- The session is not IDLE. -/
def sessionOpen (s : State) : Bool := s.session.state != .idle

/-- Forced HOLD: the record in force has QuietInSession yes and the session is not IDLE (R8). -/
def forcedHold (s : State) (c : Chn) : Bool :=
  match recordOf s c with
  | some r => r.quietInSession && sessionOpen s
  | none => false

/-- Effective HOLD: own HOLD or forced HOLD (R8). -/
def effectiveHold (s : State) (c : Chn) : Bool := (s.chan c).ownHold || forcedHold s c

/-- Channel `c` is present with Owner `o` and Peer `q` (R11, R16). -/
def servedBy (s : State) (c : Chn) (o q : Port) : Bool :=
  match recordOf s c with
  | some r => r.owner == o && r.peer == q
  | none => false

/-! ## Exchange entries -/

/-- The xid of an entry: its generation × 32 + its index (R43). -/
def xidOf (s : State) (e : EntryIx) : Nat := (s.entry e).gen * 32 + e.val

/-- An entry is live: it is not free. -/
def live (s : State) (e : EntryIx) : Bool := (s.entry e).st != .free

/-- The live entries whose requester is `p` (R42, R44). -/
def heldBy (s : State) (p : Port) : Nat :=
  (allEntries.filter (fun e => live s e && (s.entry e).requester == p)).length

/-- The free entry with the lowest index (R44). -/
def lowestFree (s : State) : Option EntryIx := allEntries.find? (fun e => !live s e)

/-- The live entry of requester `p` whose present tag is `t` (R45). -/
def entryOfTag (s : State) (p : Port) (t : Byte) : Option EntryIx :=
  allEntries.find? (fun e => live s e && (s.entry e).requester == p && (s.entry e).tag == some t)

/-- Entry `e` waits as a retry (R46). -/
def waitingRetry (s : State) (e : EntryIx) : Bool := (s.entry e).st == .queued && (s.entry e).fwdOnce

/-- The snapshot of a record (R3). -/
def snapshotOf (r : ChannelRecord) : Snapshot :=
  { responseLimit := r.responseLimit, extendStep := r.extendStep, maxExtends := r.maxExtends, retries := r.retries,
    autoHold := r.autoHold, barOnTimeout := r.barOnTimeout }

/-- Free an entry whose reply has left and which has no WITHDRAW outstanding (R66). -/
def freeIfDone (e : EntryIx) (s : State) : State :=
  let x := s.entry e
  if x.st == .replying && x.tag == none && !x.withdraw then s.setEntry e (.freed x.gen) else s

/-- The outstanding count of `c` falls by 1 (R7). -/
def countDown (c : Chn) (s : State) : State :=
  s.setChan c { s.chan c with outstanding := (s.chan c).outstanding - 1 }

/-- The reply of `e` has left its return queue for good: sent, discarded or dropped (R53, R66). -/
def replyGone (e : EntryIx) (s : State) : State :=
  let s := countDown (s.entry e).chan s
  freeIfDone e (s.setEntry e { s.entry e with tag := none })

/-- The WITHDRAW of `e` has been sent or discarded (R64). -/
def withdrawGone (e : EntryIx) (s : State) : State :=
  freeIfDone e (s.setEntry e { s.entry e with withdraw := false })

/-- A forward of `e` that has not been marked as ended is in transmission on the responder's link. -/
def forwardInFlight (s : State) (e : EntryIx) : Bool :=
  match (s.arb (s.entry e).responder).tx with
  | some t => t.source == .forward e none
  | none => false

/-- The request blocks of `e`, as held for its requester. -/
def reqHeld (s : State) (e : EntryIx) : Held :=
  { port := (s.entry e).requester, blocks := match (s.entry e).req with | some r => r.blocks | none => 0 }

/-- Release the request blocks of an exchange that ends: at once, or, where a forward of the request is in transmission, at
the completion or discard of that frame (R40). -/
def dropRequest (e : EntryIx) (s : State) : State :=
  let h := reqHeld s e
  let s :=
    if forwardInFlight s e then
      let q := (s.entry e).responder
      s.setArb q { s.arb q with tx := (s.arb q).tx.map (fun t => { t with source := .forward e (some h) }) }
    else release h.port h.blocks s
  s.setEntry e { s.entry e with req := none }

/-- A WITHDRAW is made for `e` where the responder's link is UP (R63, R64). -/
def makeWithdraw (e : EntryIx) (s : State) : State :=
  let q := (s.entry e).responder
  if (s.link q).state == .up then
    pushPart q { what := .withdraw e, block := .pool } (s.setEntry e { s.entry e with withdraw := true })
  else s

/-- The reply of `e` joins the tail of the return queue of its channel number (R19). -/
def joinReturn (e : EntryIx) (f : Option ReplyFrame) (s : State) : State :=
  let c := (s.entry e).chan
  s.setChan c { s.chan c with ret := (s.chan c).ret ++ [{ entry := e, frame := f }] }

/-- Entry `e` enters REPLYING with ending status `st` (R46). -/
def enterReplying (e : EntryIx) (st : Status) (s : State) : State :=
  s.setEntry e { s.entry e with st := .replying, status := some st, deadline := none }

/-- Statuses whose ending tells the responder by a WITHDRAW, where the request had been forwarded (R63). -/
def Status.withdraws : Status → Bool
  | .timeout => true
  | .cancelled => true
  | .barred => true
  | .revoked => true
  | .delivered => false
  | .illegal => false
  | .busy => false
  | .absent => false
  | .nospace => false
  | .budget => false
  | .restarted => false

/-- A part-made ending of `e` (R14, R57, R58, R60, R63, R68, R69, R96): REPLYING, request blocks released, the reply in the
return queue, and a WITHDRAW where R63 makes one. The caller has taken the entry out of the queue it waited in. -/
def endExchange (e : EntryIx) (st : Status) (s : State) : State :=
  let forwarded := (s.entry e).fwdOnce
  let s := joinReturn e none (dropRequest e (enterReplying e st s))
  if st.withdraws && forwarded then makeWithdraw e s else s

/-- `endExchange` for each entry of a list, in order. -/
def endAll (es : List EntryIx) (st : Status) (s : State) : State := es.foldl (fun s e => endExchange e st s) s

/-- Entry `e` leaves the waiting retries of its channel number. -/
def leaveRetries (e : EntryIx) (s : State) : State :=
  let c := (s.entry e).chan
  s.setChan c { s.chan c with retries := (s.chan c).retries.filter (· != e) }

/-- The request of `e` leaves the forward queue of its channel number; the items behind it keep their order (R18). -/
def leaveForward (e : EntryIx) (s : State) : State :=
  let c := (s.entry e).chan
  s.setChan c { s.chan c with fwd := (s.chan c).fwd.filter (· != .request e) }

/-! ## Forward queue items -/

/-- The entries of the requests of a forward queue, in queue order. -/
def requestsOf (q : List FwdItem) : List EntryIx :=
  q.filterMap (fun i => match i with | .request e => some e | .post _ => none)

/-- The posts of a forward queue, in queue order. -/
def postsOf (q : List FwdItem) : List PostItem :=
  q.filterMap (fun i => match i with | .request _ => none | .post m => some m)

/-- A post is discarded with a verdict to its sender, built in its first block (R18, R40). -/
def discardPost (c : Chn) (why : Reason) (m : PostItem) (s : State) : State :=
  verdict m.sender m.blocks why .post [chnByte c, m.label] s

/-- A post is discarded without verdict (R20, R40). -/
def dropPost (m : PostItem) (s : State) : State := release m.sender m.blocks s

/-! ## HOLD and BAR -/

/-- Set own HOLD of `c`. -/
def setOwnHold (c : Chn) (v : Bool) (s : State) : State := s.setChan c { s.chan c with ownHold := v }

/-- Set own HOLD on every channel present in the active area whose Peer is `p` (R10). -/
def holdPeerChannels (p : Port) (s : State) : State :=
  allChns.foldl
    (fun s c =>
      match recordOf s c with
      | some r => if r.peer = p then setOwnHold c true s else s
      | none => s)
    s

/-- BAR of a present channel goes from clear to set (R14). -/
def barChannel (c : Chn) (owner : Port) (s : State) : State :=
  let ch := s.chan c
  let s := latch owner .barred (s.setChan c { ch with bar := true })
  let s := endAll ch.retries .barred (s.setChan c { s.chan c with retries := [] })
  let s := endAll (requestsOf ch.fwd) .barred (s.setChan c { s.chan c with fwd := [] })
  (postsOf ch.fwd).foldl (fun s m => discardPost c .barred m s) s

/-- BarOnTimeout of an exchange that ended TIMEOUT (R16). -/
def barOnTimeout (e : EntryIx) (s : State) : State :=
  let x := s.entry e
  if x.snap.barOnTimeout && servedBy s x.chan x.requester x.responder && !(s.chan x.chan).bar then
    barChannel x.chan x.requester s
  else s

/-- AutoHold of an exchange that ended DELIVERED (R11). -/
def autoHoldReply (e : EntryIx) (s : State) : State :=
  let x := s.entry e
  if x.snap.autoHold && servedBy s x.chan x.requester x.responder then setOwnHold x.chan true s else s

/-- The Types of a record allow a message of the given type. -/
def MsgTypes.allow : MsgTypes → Bool → Bool
  | .requests, isPost => !isPost
  | .posts, isPost => isPost
  | .both, _ => true

/-- The check of queued work against a record: an item of `sender` for `peer` with the given type, kind and payload length
(R57, R96). -/
def recordAllows (r : Option ChannelRecord) (isPost : Bool) (sender peer : Port) (kind : Fin 16) (len : Nat) : Bool :=
  match r with
  | some r =>
    r.owner == sender && r.peer == peer && r.types.allow isPost && r.kinds.getLsbD kind.val && decide (len ≤ r.maxSize)
  | none => false

/-- The payload length of the request of `e`. -/
def reqLength (s : State) (e : EntryIx) : Nat :=
  match (s.entry e).req with
  | some r => r.payload.length
  | none => 0

/-- The re-forward check of the request of `e` against the record `r` (R57, R96). -/
def requestAllowed (s : State) (r : Option ChannelRecord) (e : EntryIx) : Bool :=
  let x := s.entry e
  recordAllows r false x.requester x.responder x.kind (reqLength s e)

end Sys2Proof.Machine
end

