-- ==== Sys2Proof/Machine/Egress.lean ====
section
/-! DEFINITION. The egress arbiters: candidates and their order (R71 to R80), the grant of each kind of frame (R73 to R78),
and the effects at the end of a transmission (R83). -/

namespace Sys2Proof.Machine

/-! ## The order of candidates -/

/-- The pointer of a class (R70). -/
def Pointers.get (v : Pointers) : EgressClass → Option Chn
  | .payment => v.payment
  | .radio => v.radio
  | .app => v.app

/-- The pointer of class `k` takes channel number `c` (R80). -/
def Pointers.set (v : Pointers) (k : EgressClass) (c : Chn) : Pointers :=
  match k with
  | .payment => { v with payment := some c }
  | .radio => { v with radio := some c }
  | .app => { v with app := some c }

/-- The class of a channel number at egress; a number absent from the active area is ranked in class APP (R75). -/
def classOfChn (s : State) (c : Chn) : EgressClass :=
  match recordOf s c with
  | some r => r.cls
  | none => .app

/-- The numbers in the order of a mode: ascending, or after the pointer in the cycle (R79, R80). -/
def rankOrder (m : EgressMode) (p : Option Chn) : List Chn :=
  match m, p with
  | .rotating, some p => allChns.filter (fun c => p < c) ++ allChns.filter (fun c => c ≤ p)
  | _, _ => allChns

/-- The first eligible number: PAYMENT, then RADIO, then APP, and within a class in the order of the mode (R79, R80). -/
def pick (s : State) (m : EgressMode) (v : Pointers) (eligible : Chn → Bool) : Option Chn :=
  let first (k : EgressClass) := (rankOrder m (v.get k)).find? (fun c => eligible c && classOfChn s c == k)
  (first .payment).or ((first .radio).or (first .app))

/-- The gap of `c` is satisfied (R34). -/
def gapSatisfied (s : State) (c : Chn) (gap : Nat) : Bool :=
  match (s.chan c).lastForward with
  | some t => atOrLater s.time (after t gap)
  | none => true

/-- The head of the return queue of `c` names `p` as its requester (R75). -/
def replyCandidate (s : State) (p : Port) (c : Chn) : Bool :=
  match (s.chan c).ret with
  | i :: _ => (s.entry i.entry).requester == p
  | [] => false

/-- Channel `c` is an eligible forward candidate of `p` (R76). -/
def forwardCandidate (s : State) (p : Port) (c : Chn) : Bool :=
  match recordOf s c with
  | some r =>
    r.peer == p && (!(s.chan c).retries.isEmpty || !(s.chan c).fwd.isEmpty) && !effectiveHold s c && !(s.chan c).bar
      && gapSatisfied s c r.gap
  | none => false

/-- The screen of a port that has one (RD has no touch queue and no draw state). -/
def screenOf : Port → Option Screen
  | .ad => some .ad
  | .pd => some .pd
  | .rd => none

/-- The port of a screen. -/
def portOfScreen : Screen → Port
  | .ad => .ad
  | .pd => .pd

/-- The head of the touch queue of `p` (R74). -/
def touchHead (s : State) (p : Port) : Option TouchEvent :=
  match screenOf p with
  | some x => (s.touchQueue x).head?
  | none => none

/-! ## Handing a frame to the link unit -/

/-- The frame in transmission of `p` becomes `t`: the stall timer starts and, on an SPI link, the ready line is asserted
(R70, R154, R168). -/
def startTx (p : Port) (ty : Byte) (body : List Byte) (src : TxSource) (s : State) : State :=
  let s := s.setArb p { s.arb p with tx := some { ty := ty, body := body, sent := 0, source := src } }
  let s := s.setLink p
    { s.link p with stall := some (after s.time (10 * (settingsOf s p).stallLimit)), ready := p != .rd }
  if p = .rd then s.setRadio { s.radio with lastStarted := false } else s

/-- Type code, body and source of a part frame of `p`, as it is sent (R163, R164). A NOTICE reads the pending set as it then
stands (R73). -/
def partWire (s : State) (p : Port) (f : IFrame) : Byte × List Byte × TxSource :=
  match f.what with
  | .verdict why refused ids => (codeVerdict, verdictBody why refused ids, .part f.block)
  | .refusal c tag kind st => (codeReplyOut, replyBody c tag kind st 0#8 [], .part f.block)
  | .controlReply code tag st result => (codeControlReply, controlReplyBody code tag st result, .part f.block)
  | .helloReply ev errors => (codeHelloReply, helloReplyBody p ev errors, .part f.block)
  | .notice => (codeNotice, leHalf (s.notice p).set, .notice)
  | .withdraw e => (codeWithdraw, [chnByte (s.entry e).chan, countByte (xidOf s e)], .withdraw e)

/-- Step 1: the head of the internal part-frame queue (R73). -/
def grantPart (p : Port) (f : IFrame) (rest : List IFrame) (s : State) : State :=
  let w := partWire s p f
  let s := s.setArb p { s.arb p with iq := rest }
  let s := if f.what = .notice then s.setNotice p { s.notice p with st := .sending } else s
  startTx p w.1 w.2.1 w.2.2 s

/-- Step 2: the head of the touch queue, which keeps its place until the transmission ends (R74). -/
def grantTouch (p : Port) (ev : TouchEvent) (s : State) : State := startTx p codeTouch (touchBody ev) .touch s

/-- The body of the reply frame of `e` (R53, R163). -/
def replyOut (s : State) (c : Chn) (i : RetItem) : List Byte :=
  let x := s.entry i.entry
  let tag := x.tag.getD 0#8
  let st := x.status.getD .delivered
  match i.frame with
  | some f => replyBody (chnByte c) tag x.kind st f.result f.payload
  | none => replyBody (chnByte c) tag x.kind st 0#8 []

/-- Step 3: the head of the return queue of `c` (R75, R80). -/
def grantReply (p : Port) (c : Chn) (s : State) : State :=
  match (s.chan c).ret with
  | i :: rest =>
    let held := i.frame.map (fun f => { port := (s.entry i.entry).responder, blocks := f.blocks : Held })
    let body := replyOut s c i
    let s := s.setChan c { s.chan c with ret := rest }
    let s := s.setArb p { s.arb p with ptr3 := (s.arb p).ptr3.set (classOfChn s c) c }
    startTx p codeReplyOut body (.reply i.entry held false) s
  | [] => s

/-- A forward of `e`, first or retry, at the grant (R47, R49). -/
def forwardRequest (p : Port) (c : Chn) (e : EntryIx) (s : State) : State :=
  let x := s.entry e
  let payload := match x.req with | some r => r.payload | none => []
  let s := s.setEntry e
    { x with st := .forwarded, fwdOnce := true, deadline := some (after s.time x.snap.responseLimit), extCount := 0 }
  startTx p codeFwdRequest (fwdRequestBody (chnByte c) (xidOf s e) x.kind x.attempt payload) (.forward e none) s

/-- A forward of a post, at the grant (R78): AutoHold of the active area sets own HOLD (R11). -/
def forwardPost (p : Port) (c : Chn) (m : PostItem) (s : State) : State :=
  let s := match recordOf s c with
    | some r => if r.autoHold then setOwnHold c true s else s
    | none => s
  startTx p codeFwdPost (fwdPostBody (chnByte c) m.label m.kind m.payload)
    (.post { port := m.sender, blocks := m.blocks }) s

/-- Step 4: the oldest waiting retry of `c`, or else the head of its forward queue (R77, R78, R80). -/
def grantForward (p : Port) (c : Chn) (s : State) : State :=
  let ch := s.chan c
  let s := s.setArb p { s.arb p with ptr4 := (s.arb p).ptr4.set (classOfChn s c) c }
  match ch.retries with
  | e :: rest => forwardRequest p c e (s.setChan c { ch with retries := rest, lastForward := some s.time })
  | [] =>
    match ch.fwd with
    | .request e :: rest => forwardRequest p c e (s.setChan c { ch with fwd := rest, lastForward := some s.time })
    | .post m :: rest => forwardPost p c m (s.setChan c { ch with fwd := rest, lastForward := some s.time })
    | [] => s

/-- A grant is possible on the link of `p`: it is UP and its transmit direction is free (R71). -/
def mayGrant (s : State) (p : Port) : Bool := (s.link p).state == .up && (s.arb p).tx.isNone

/-- The number granted at step 3 (R75, R79). -/
def pickReply (s : State) (p : Port) : Option Chn :=
  pick s (settingsOf s p).mode (s.arb p).ptr3 (replyCandidate s p)

/-- The number granted at step 4 (R76, R79). -/
def pickForward (s : State) (p : Port) : Option Chn :=
  pick s (settingsOf s p).mode (s.arb p).ptr4 (forwardCandidate s p)

/-- The arbiter of `p` makes a grant where one can be made: the first of the four steps that has a candidate (R71, R72). -/
def grant (p : Port) (s : State) : State :=
  if mayGrant s p then
    match (s.arb p).iq with
    | f :: rest => grantPart p f rest s
    | [] =>
      match touchHead s p with
      | some ev => grantTouch p ev s
      | none =>
        match pickReply s p with
        | some c => grantReply p c s
        | none =>
          match pickForward s p with
          | some c => grantForward p c s
          | none => s
  else s

/-- One round of the three arbiters. The manual gives no order between grants that one event makes on different links (R71); the order
AD, PD, RD is a DESIGN CHOICE (log entry 20). -/
def grantRound (s : State) : State := grant .rd (grant .pd (grant .ad s))

/-- The grants of one event. A reply granted on one link may bring the next reply of its return queue to the head for
another link (R75), so the round is made three times: three links make three grants at most (log entries 7 and 20). -/
def grants (s : State) : State := grantRound (grantRound (grantRound s))

/-! ## The end of a transmission -/

/-- The transmit direction of `p` becomes free: no frame in transmission, stall timer stopped, ready line released. -/
def clearTx (p : Port) (s : State) : State :=
  let s := s.setArb p { s.arb p with tx := none }
  s.setLink p { s.link p with stall := none, ready := false }

/-- The event in transmission leaves the touch queue of `p` (R74). -/
def touchGone (p : Port) (s : State) : State :=
  match screenOf p with
  | some x => s.setTouchQueue x (s.touchQueue x).tail
  | none => s

/-- A first forward's blocks are released where Retries is 0 (R47). -/
def forwardSent (e : EntryIx) (s : State) : State :=
  let x := s.entry e
  if x.snap.retries = 0 then
    (release (reqHeld s e).port (reqHeld s e).blocks s).setEntry e { x with req := none }
  else s

/-- The effect on the source of a frame whose transmission completes (`done`) or which a stall discards (R83). -/
def txEnded (p : Port) (done : Bool) (src : TxSource) (s : State) : State :=
  match src with
  | .part b => releaseBlock p b s
  | .notice => if done then noticeSent p s else noticeDiscarded p s
  | .withdraw e => withdrawGone e s
  | .touch => touchGone p s
  | .reply e held dropped =>
    let s := releaseHeld held s
    if dropped then s else replyGone e s
  | .forward _ (some h) => releaseHeld (some h) s
  | .forward e none => forwardSent e s
  | .post h => releaseHeld (some h) s

/-- End the transmission on the link of `p`, completed or discarded (R83). -/
def endTx (p : Port) (done : Bool) (s : State) : State :=
  match (s.arb p).tx with
  | some t => txEnded p done t.source (clearTx p s)
  | none => s

/-- The byte presented on an SPI link for a byte clocked in: the next byte of the frame in transmission, or the filler
byte (R154). Nothing is presented on the radio link. -/
def clockOut (p : Port) (s : State) : State :=
  if p = .rd then s
  else
    match (s.arb p).tx with
    | some t =>
      if t.sent < wireLength t.body then
        let s := s.setLink p { s.link p with dataOut := byteAt (wireBytes t.ty t.body) t.sent }
        s.setArb p { s.arb p with tx := some { t with sent := t.sent + 1 } }
      else s.setLink p { s.link p with dataOut := fillerByte }
    | none => s.setLink p { s.link p with dataOut := fillerByte }

/-- On an SPI link the last CRC byte of the frame in transmission has been clocked out (R154). -/
def clockedOut (s : State) (p : Port) : Bool :=
  p != .rd && match (s.arb p).tx with
    | some t => decide (wireLength t.body ≤ t.sent)
    | none => false

end Sys2Proof.Machine
end

