-- ==== Sys2Proof/Machine/Switch.lean ====
section
/-! DEFINITION. Taking an area switch (R32, R95 to R98) and FULL_CLEAR's part in the policy store, the channel engine and the
exchange table (R21, R69, R100). -/

namespace Sys2Proof.Machine

/-- The five cases of R95, by the record before and the record after. -/
inductive SwitchCase where
  | kept (before after : ChannelRecord)
  | changed (after : ChannelRecord)
  | new (after : ChannelRecord)
  | removed
  | idle
  deriving DecidableEq, Repr

/-- Sort a channel number by its two records (R32, R95). -/
def switchCase (before after : Option ChannelRecord) : SwitchCase :=
  match before, after with
  | some b, some a => if b.owner = a.owner ∧ b.peer = a.peer then .kept b a else .changed a
  | none, some a => .new a
  | some _, none => .removed
  | none, none => .idle

/-- The refill timer of a record started at `t`: its next expiry, or stopped on an unmetered channel (R31, R33). -/
def timerFrom (r : ChannelRecord) (t : Time) : Option Time :=
  if r.creditBase = 0 then none else some (after t (10 * r.refillPeriod))

/-- Credit and refill timer after a switch at `t` (R32). -/
def switchCredit (k : SwitchCase) (t : Time) (ch : Chan) : Nat × Option Time :=
  match k with
  | .kept b a =>
    if a.creditBase = 0 then (0, none)
    else if b.creditBase = 0 then (a.creditBase, timerFrom a t)
    else (min ch.credit a.creditBase, if a.refillPeriod = b.refillPeriod then ch.refillAt else timerFrom a t)
  | .changed a => (a.creditBase, timerFrom a t)
  | .new a => (a.creditBase, timerFrom a t)
  | .removed => (0, none)
  | .idle => (ch.credit, ch.refillAt)

/-- The runtime of a number after a switch at `t`, but for its queued work (R95). The switch sets the credit afresh (R32), so no refill
before it acts on the admissions after it (log entry 19). -/
def switchRuntime (k : SwitchCase) (t : Time) (ch : Chan) : Chan :=
  let cr := switchCredit k t ch
  let ch := { ch with credit := cr.1, refillAt := cr.2, lastRefill := none }
  match k with
  | .kept _ _ => ch
  | .idle => ch
  | .changed _ => { ch with lastForward := none, ownHold := false, bar := false }
  | .new _ => { ch with lastForward := none, ownHold := false, bar := false }
  | .removed => { ch with lastForward := none, ownHold := false, bar := false }

/-- One waiting retry at a switch: it stays, or ends REVOKED (R96). -/
def recheckRetry (c : Chn) (e : EntryIx) (s : State) : State :=
  if requestAllowed s (recordOf s c) e then s else endExchange e .revoked (leaveRetries e s)

/-- One item of a forward queue at a switch: it stays, or ends REVOKED, or is discarded with verdict REVOKED (R96). -/
def recheckItem (c : Chn) (i : FwdItem) (s : State) : State :=
  match i with
  | .request e => if requestAllowed s (recordOf s c) e then s else endExchange e .revoked (leaveForward e s)
  | .post m =>
    if recordAllows (recordOf s c) true m.sender m.peer m.kind m.payload.length then s
    else discardPost c .revoked m s

/-- The posts that fail the check leave the forward queue of `c` (R96). -/
def sweepPosts (c : Chn) (s : State) : State :=
  s.setChan c
    { s.chan c with
      fwd := (s.chan c).fwd.filter fun i =>
        match i with
        | .request _ => true
        | .post m => recordAllows (recordOf s c) true m.sender m.peer m.kind m.payload.length }

/-- The re-check of the work queued on `c` (R96): the waiting retries in their order, then the forward queue in its order. -/
def recheck (c : Chn) (s : State) : State :=
  let ch := s.chan c
  let s := ch.retries.foldl (fun s e => recheckRetry c e s) s
  let s := ch.fwd.foldl (fun s i => recheckItem c i s) s
  sweepPosts c s

/-- One channel number at a switch from the area `before`. -/
def switchChannel (before : Area) (c : Chn) (s : State) : State :=
  recheck c (s.setChan c (switchRuntime (switchCase (before.recs.get c) (recordOf s c)) s.time (s.chan c)))

/-- All six rotation pointers of every arbiter become absent (R81). -/
def resetPointers (s : State) : State :=
  allPorts.foldl (fun s p => s.setArb p { s.arb p with ptr3 := .none, ptr4 := .none }) s

/-- An area switch to `target` (R95 to R98). -/
def takeSwitch (target : AreaId) (s : State) : State :=
  let before := activeArea s
  let s := s.setPolicy { s.policy with active := target, pendingSwitch := none }
  let s := allChns.foldl (fun s c => switchChannel before c s) s
  latchAll .areaSwitched (resetPointers s)

/-- The entries FORWARDED on `c`, in ascending index (R21, R68). -/
def forwardedOn (s : State) (c : Chn) : List EntryIx :=
  allEntries.filter (fun e => (s.entry e).st == .forwarded && (s.entry e).chan == c)

/-- FULL_CLEAR of one channel number (R21). -/
def clearChannel (c : Chn) (s : State) : State :=
  let ch := s.chan c
  let s := endAll ch.retries .revoked (s.setChan c { s.chan c with retries := [] })
  let s := endAll (requestsOf ch.fwd) .revoked (s.setChan c { s.chan c with fwd := [] })
  let s := endAll (forwardedOn s c) .revoked s
  let s := (postsOf ch.fwd).foldl (fun s m => discardPost c .revoked m s) s
  s.setChan c
    { s.chan c with credit := 0, ownHold := false, bar := false, refillAt := none, lastRefill := none,
                      lastForward := none }

/-- FULL_CLEAR in IDLE (R100). -/
def clearAll (s : State) : State :=
  let s := s.setPolicy { areaA := .default, areaB := .default, active := .a, pendingSwitch := none }
  let s := allChns.foldl (fun s c => clearChannel c s) s
  latchAll .areaSwitched (resetPointers s)

end Sys2Proof.Machine
end

