-- ==== Sys2Proof/Machine/SessionOps.lean ====
section
/-! DEFINITION. The session controller's changes of state (R107 to R117). -/

namespace Sys2Proof.Machine

/-- Change the session record, where one is present. -/
def editRecord (f : SessRecord → SessRecord) (s : State) : State :=
  s.setSession { s.session with record := s.session.record.map f }

/-- RELEASED at the return to IDLE, for the owner of each QuietInSession channel whose own HOLD is clear (R13, R116). -/
def releaseQuiet (s : State) : State :=
  allChns.foldl
    (fun s c =>
      match recordOf s c with
      | some r => if r.quietInSession && !(s.chan c).ownHold then latch r.owner .released s else s
      | none => s)
    s

/-- A pending switch is taken at the return to IDLE (R99). -/
def takePending (s : State) : State :=
  match s.policy.pendingSwitch with
  | some t => takeSwitch t s
  | none => s

/-- The session returns to IDLE (R116). -/
def returnToIdle (s : State) : State :=
  let s := s.setSession { s.session with state := .idle, record := none }
  takePending (latchAll .sessionChange (releaseQuiet s))

/-- The session enters ACTIVE (R109). -/
def enterActive (s : State) : State :=
  let limit := match s.session.record with | some r => r.limit | none => 0
  let s := editRecord (fun r => { r with start := some s.time }) s
  let s := s.setSession
    { s.session with state := .active, secureInd := true, limitAt := some (after s.time (1000 * limit)) }
  latchAll .sessionChange s

/-- The session enters CLOSING with the close `k` (R114). A close without blank returns to IDLE in the same event. -/
def enterClosing (k : Close) (s : State) : State :=
  let s := editRecord (fun r => { r with closeReq := none }) s
  let s := s.setSession { s.session with state := .closing, secureInd := false, limitAt := none }
  let s := latchAll .sessionChange s
  match k with
  | .blank colour =>
    editRecord (fun r => { r with fill := some ⟨r.rect.y0, r.rect.y1⟩, fillColour := some colour }) s
  | .plain => returnToIdle s

/-- The completion of the AD run that OPENING waits for (R108, R113). -/
def endOpening (s : State) : State :=
  match s.session.record.bind (·.closeReq) with
  | some k => enterClosing k s
  | none => enterActive s

/-- A run of AD is in progress on the panel link (R107). -/
def adRunInProgress (s : State) : Bool :=
  match s.run with
  | some r => r.source == .frame .ad
  | none => false

/-- An OPEN_SESSION that passes its checks (R107). -/
def openSession (a : OpenArgs) (s : State) : State :=
  let r : SessRecord :=
    { rect := a.rect, capture := a.capture, limit := a.limit, openColour := a.colour, start := none, closeReq := none,
      fill := none, fillColour := none }
  let s := s.setSession { state := .opening, record := some r, secureInd := false, limitAt := none }
  let s := latchAll .sessionChange s
  if adRunInProgress s then s else enterActive s

/-- Store a close request (R113). -/
def storeClose (k : Close) (s : State) : State := editRecord (fun r => { r with closeReq := some k }) s

/-- The teardown of PD closes an open session with blank and 0x0000 (R117). -/
def closeForPd (s : State) : State :=
  match s.session.state with
  | .idle => s
  | .opening => storeClose (.blank 0#16) s
  | .active => enterClosing (.blank 0#16) s
  | .closing => s

/-- The fill run of the next fill row, while the session is CLOSING with blank and a row is still to be taken (R115, R133). -/
def fillRun (s : State) : Option Run :=
  match s.session.state, s.session.record with
  | .closing, some r =>
    match r.fill with
    | some f =>
      if f.next ≤ f.last then
        some { source := .fill, x := r.rect.x0, y := f.next, dir := .row,
               pixels := List.replicate (r.rect.x1 + 1 - r.rect.x0) (r.fillColour.getD 0#16), last := none }
      else none
    | none => none
  | _, _ => none

/-- The next fill row rises by 1 (R115). -/
def nextFillRow (s : State) : State :=
  editRecord (fun r => { r with fill := r.fill.map (fun f => { f with next := f.next + 1 }) }) s

/-- The fill run that has completed was that of the last fill row (R115, R137). -/
def fillFinished (s : State) : Bool :=
  s.session.state == .closing &&
    match s.session.record.bind (·.fill) with
    | some f => decide (f.last < f.next)
    | none => false

end Sys2Proof.Machine
end

