-- ==== Sys2Proof/Machine/Display.lean ====
section
/-! DEFINITION. The display filter and the panel arbiter: cursor advance (R128), masking (R129), formation of runs (R131,
R132), takes (R134), completion of a run (R137). -/

namespace Sys2Proof.Machine

/-! ## Cursor -/

/-- The cursor after the position (cx, cy) (R128). -/
def advance (w : Window) (cx cy : Nat) : Nat × Nat :=
  match w.order with
  | .row =>
    if cx < w.rect.x1 then (cx + 1, cy)
    else (w.rect.x0, if cy < w.rect.y1 then cy + 1 else w.rect.y0)
  | .column =>
    if cy < w.rect.y1 then (cx, cy + 1)
    else (if cx < w.rect.x1 then cx + 1 else w.rect.x0, w.rect.y0)

/-- (cx, cy) is the last position of a line, so the advance from it is a line wrap (R128). -/
def lineEnd (w : Window) (cx cy : Nat) : Bool :=
  match w.order with
  | .row => decide (w.rect.x1 ≤ cx)
  | .column => decide (w.rect.y1 ≤ cy)

/-! ## Masking -/

/-- An AD pixel at (x, y) is masked, at this moment (R119, R129). -/
def adMasked (s : State) (x y : Nat) : Bool :=
  decide (y < (activeArea s).bannerRows) ||
    (sessionOpen s && match s.session.record with | some r => r.rect.holds x y | none => false)

/-- A pixel of source `x` at a position is masked: PD pixels never are (R129). -/
def maskFor (s : State) : Screen → Nat → Nat → Bool
  | .ad => adMasked s
  | .pd => fun _ _ => false

/-! ## Formation -/

/-- Pass over masked pixels from the cursor: the pixels left, how many were passed over, and the cursor (R131 step 2). -/
def skipMasked (mask : Nat → Nat → Bool) (w : Window) : Nat → Nat → List Half → List Half × Nat × Nat × Nat
  | cx, cy, [] => ([], 0, cx, cy)
  | cx, cy, v :: vs =>
    if mask cx cy then
      let c := advance w cx cy
      let r := skipMasked mask w c.1 c.2 vs
      (r.1, r.2.1 + 1, r.2.2.1, r.2.2.2)
    else (v :: vs, 0, cx, cy)

/-- Take pixels for a run from the cursor: it stops after a line wrap, before a masked pixel or at the end of the frame
(R131 step 3). The pixels of the run, the pixels left, and the cursor. -/
def gather (mask : Nat → Nat → Bool) (w : Window) : Nat → Nat → List Half → List Half × List Half × Nat × Nat
  | cx, cy, [] => ([], [], cx, cy)
  | cx, cy, v :: vs =>
    if mask cx cy then ([], v :: vs, cx, cy)
    else
      let c := advance w cx cy
      if lineEnd w cx cy then ([v], vs, c.1, c.2)
      else
        let r := gather mask w c.1 c.2 vs
        (v :: r.1, r.2.1, r.2.2.1, r.2.2.2)

/-- What a formation leaves: the draw state, the blocks released, and the run, where one was formed. -/
structure Formed where
  draw : Draw
  released : Nat
  run : Option Run
  deriving DecidableEq, Repr

/-- A formation for source `x` (R131): work through the queue from its head until a run is formed or the queue is empty. -/
def form (x : Screen) (mask : Nat → Nat → Bool) :
    List DrawFrame → Window → Nat → Nat → Option Nat → Nat → Formed
  | [], w, cx, cy, _, freed =>
    { draw := { queue := [], window := w, cx := cx, cy := cy, next := none }, released := freed, run := none }
  | .window w n :: q, _, _, _, _, freed => form x mask q w w.rect.x0 w.rect.y0 none (freed + n)
  | .pixels px n :: q, w, cx, cy, next, freed =>
    let at' := next.getD 0
    let k := skipMasked mask w cx cy (px.drop at')
    match k.1 with
    | [] => form x mask q w k.2.2.1 k.2.2.2 none (freed + n)
    | _ :: _ =>
      let g := gather mask w k.2.2.1 k.2.2.2 k.1
      let run (last : Option Nat) : Run :=
        { source := .frame x, x := k.2.2.1, y := k.2.2.2, dir := w.order, pixels := g.1, last := last }
      match g.2.1 with
      | [] =>
        { draw := { queue := q, window := w, cx := g.2.2.1, cy := g.2.2.2, next := none }, released := freed,
          run := some (run (some n)) }
      | _ :: _ =>
        { draw := { queue := .pixels px n :: q, window := w, cx := g.2.2.1, cy := g.2.2.2,
                    next := some (at' + k.2.1 + g.1.length) },
          released := freed, run := some (run none) }

/-- The formation for source `x` in a state. -/
def formFor (s : State) (x : Screen) : Formed :=
  let d := s.draw x
  form x (maskFor s x) d.queue d.window d.cx d.cy d.next 0

/-- Carry out a formation for source `x`: the draw state and the released blocks keep their effect, and a run formed becomes
the run in progress (R131, R134). -/
def takeFor (x : Screen) (s : State) : State :=
  let f := formFor s x
  (release (portOfScreen x) f.released (s.setDraw x f.draw)).setRun f.run

/-- The take of PD, of the fill and of AD, in this order, each where the ones before it have taken no run (R134). -/
def takePd (s : State) : State := if (s.draw .pd).queue.isEmpty then s else takeFor .pd s

/-- The take of a fill run. -/
def takeFill (s : State) : State :=
  match s.run, fillRun s with
  | none, some r => nextFillRow (s.setRun (some r))
  | _, _ => s

/-- The take of AD. -/
def takeAd (s : State) : State :=
  if s.run.isNone && !(s.draw .ad).queue.isEmpty then takeFor .ad s else s

/-- The panel arbiter makes a take where the panel link is free (R134). -/
def panelTake (s : State) : State := if s.run.isNone then takeAd (takeFill (takePd s)) else s

/-- The completion of the run in progress, reported to its source (R137). -/
def runCompleted (r : Run) (s : State) : State :=
  let s := s.setRun none
  match r.source with
  | .frame x =>
    let s := match r.last with
      | some n => release (portOfScreen x) n s
      | none => s
    if x = .ad ∧ s.session.state = .opening then endOpening s else s
  | .fill => if fillFinished s then returnToIdle s else s

/-- What every event ends with: the take of the panel arbiter (R134) and the grants of the egress arbiters (R71), made on
the state that the event leaves. -/
def settle (s : State) : State := grants (panelTake s)

end Sys2Proof.Machine
end

