-- ==== Sys2Proof/Machine/TouchOps.lean ====
section
/-! DEFINITION. The touch router's operations: owner of a contact (R120, R148), joining a touch queue and its overflow (R149 to
R151), events of a good read (R147), failures (R143, R144). -/

namespace Sys2Proof.Machine

/-- The owner of a contact that begins now (R120, R148). -/
def ownerNow (s : State) : Option Screen :=
  let captured := match s.session.record with | some r => r.capture | none => false
  match s.session.state with
  | .idle => some .ad
  | .opening => if captured then some .pd else some .ad
  | .active => if captured then some .pd else some .ad
  | .closing => none

/-- The head of the touch queue of `x` is in transmission (R74). -/
def touchSending (s : State) (x : Screen) : Bool :=
  match (s.arb (portOfScreen x)).tx with
  | some t => t.source == .touch
  | none => false

/-- The event is a MOVE. -/
def isMove (ev : TouchEvent) : Bool := ev.kind == .move

/-- In a reversed queue: the newest MOVE of the contact now in the slot takes the new position and time. The newest queued
event of the slot decides: where it is a DOWN or an UP, no MOVE of the present contact is queued (R150 case 1; log entry 9). -/
def replaceNewest (ev : TouchEvent) : List TouchEvent → Option (List TouchEvent)
  | [] => none
  | x :: xs =>
    if x.slot = ev.slot then
      if isMove x then some ({ x with px := ev.px, py := ev.py, time := ev.time } :: xs) else none
    else (replaceNewest ev xs).map (x :: ·)

/-- A MOVE at a full queue, on the queued events; `none` where it is dropped (R150). -/
def moveIntoFull (ev : TouchEvent) (q : List TouchEvent) : Option (List TouchEvent) :=
  match replaceNewest ev q.reverse with
  | some r => some r.reverse
  | none => if q.any isMove then some (q.eraseP isMove ++ [ev]) else none

/-- A DOWN or UP at a full queue, on the queued events, and whether a DOWN or UP is lost (R151). -/
def edgeIntoFull (ev : TouchEvent) (q : List TouchEvent) : List TouchEvent × Bool :=
  if q.any isMove then (q.eraseP isMove ++ [ev], false) else (q.drop 1 ++ [ev], true)

/-- The events of the queue of `x` that the overflow rules may not touch, and those they may (R149). -/
def splitQueue (s : State) (x : Screen) : List TouchEvent × List TouchEvent :=
  if touchSending s x then ((s.touchQueue x).take 1, (s.touchQueue x).drop 1) else ([], s.touchQueue x)

/-- An event derived for `x` joins its queue or overflows (R149 to R151). The second part is no where a MOVE was dropped. -/
def joinTouch (x : Screen) (ev : TouchEvent) (s : State) : State × Bool :=
  if (s.touchQueue x).length < touchCapacity then (s.setTouchQueue x (s.touchQueue x ++ [ev]), true)
  else
    let k := splitQueue s x
    if isMove ev then
      match moveIntoFull ev k.2 with
      | some q => (s.setTouchQueue x (k.1 ++ q), true)
      | none => (s, false)
    else
      let r := edgeIntoFull ev k.2
      let s := s.setTouchQueue x (k.1 ++ r.1)
      (if r.2 then latch (portOfScreen x) .touchLost s else s, true)

/-- An event goes to the owner of its contact; with owner none it is dropped, which is no drop of R150 (R148). -/
def deliver (owner : Option Screen) (ev : TouchEvent) (s : State) : State × Bool :=
  match owner with
  | some x => joinTouch x ev s
  | none => (s, true)

/-- The contact of a slot. -/
def contactAt (s : State) (i : Fin 2) : Option Contact := if i = 0 then s.touch.slot0 else s.touch.slot1

/-- Replace the contact of a slot. -/
def setContact (i : Fin 2) (v : Option Contact) (s : State) : State :=
  if i = 0 then s.setTouch { s.touch with slot0 := v } else s.setTouch { s.touch with slot1 := v }

/-- One slot of a good read against the contact table (R147, R150). -/
def slotStep (i : Fin 2) (seen : Option (Nat × Nat)) (s : State) : State :=
  match contactAt s i, seen with
  | none, some q =>
    let o := ownerNow s
    let s := setContact i (some { owner := o, px := q.1, py := q.2 }) s
    (deliver o { kind := .down, slot := i, px := q.1, py := q.2, time := s.time } s).1
  | some c, some q =>
    if q = (c.px, c.py) then s
    else
      let r := deliver c.owner { kind := .move, slot := i, px := q.1, py := q.2, time := s.time } s
      if r.2 then setContact i (some { c with px := q.1, py := q.2 }) r.1 else r.1
  | some c, none =>
    let s := setContact i none s
    (deliver c.owner { kind := .up, slot := i, px := c.px, py := c.py, time := s.time } s).1
  | none, none => s

/-- The touch link becomes IDLE, and a read begins at once where the attention input is asserted (R142). -/
def touchIdle (s : State) : State :=
  s.setTouch { s.touch with link := if s.touch.attention then .reading else .idle }

/-- The UP synthesised for a present contact at a fault (R144). -/
def liftContact (i : Fin 2) (s : State) : State :=
  match contactAt s i with
  | some c => (deliver c.owner { kind := .up, slot := i, px := c.px, py := c.py, time := s.time } s).1
  | none => s

/-- The third consecutive failure (R144). -/
def touchFault (s : State) : State :=
  let s := s.setTouch { s.touch with link := .fault }
  let s := liftContact 1 (liftContact 0 s)
  latch .pd .touchFault (setContact 1 none (setContact 0 none s))

/-- A read has failed (R143). -/
def readFailed (s : State) : State :=
  let n := s.touch.failures + 1
  let s := s.setTouch { s.touch with failures := n }
  if failureLimit ≤ n then touchFault s else touchIdle s

/-- A good read (R142, R143, R147): the events of slot 0, then of slot 1. -/
def readGood (report : List Byte) (s : State) : State :=
  let r := reportSlots report
  let s := slotStep 1 r.2 (slotStep 0 r.1 (s.setTouch { s.touch with failures := 0 }))
  touchIdle s

/-- The teardown of the touch state of `x` (R152). -/
def tearTouch (x : Screen) (s : State) : State :=
  let s := s.setTouchQueue x (splitQueue s x).1
  let orphan (c : Option Contact) : Option Contact :=
    c.map (fun c => if c.owner = some x then { c with owner := none } else c)
  s.setTouch { s.touch with slot0 := orphan s.touch.slot0, slot1 := orphan s.touch.slot1 }

end Sys2Proof.Machine
end

