-- ==== Sys2Proof/Machine/Teardown.lean ====
section
/-! DEFINITION. The teardown of a port after a restart or a stall (R20, R67, R68, R73, R138, R152, R167, R169, R185). -/

namespace Sys2Proof.Machine

/-- A frame of the internal part-frame queue of `p` is discarded (R73, R185). -/
def discardPart (p : Port) (f : IFrame) (s : State) : State :=
  match f.what with
  | .notice => noticeDiscarded p s
  | .withdraw e => withdrawGone e s
  | .verdict _ _ _ => releaseBlock p f.block s
  | .refusal _ _ _ _ => releaseBlock p f.block s
  | .controlReply _ _ _ _ => releaseBlock p f.block s
  | .helloReply _ _ => releaseBlock p f.block s

/-- Every frame of the internal part-frame queue of `p` is discarded (R167 step 1). -/
def discardParts (p : Port) (s : State) : State :=
  let q := (s.arb p).iq
  q.foldl (fun s f => discardPart p f s) (s.setArb p { s.arb p with iq := [] })

/-- The reply of `e` is in transmission to `p`, its exchange not dropped. -/
def replyInFlight (s : State) (p : Port) (e : EntryIx) : Bool :=
  match (s.arb p).tx with
  | some t => match t.source with
    | .reply e' _ dropped => e' == e && !dropped
    | .part _ => false
    | .notice => false
    | .withdraw _ => false
    | .touch => false
    | .forward _ _ => false
    | .post _ => false
  | none => false

/-- Mark the reply in transmission to `p` as that of a dropped exchange (R67, R82). -/
def markDropped (p : Port) (s : State) : State :=
  s.setArb p
    { s.arb p with
      tx := (s.arb p).tx.map fun t =>
        match t.source with
        | .reply e h _ => { t with source := .reply e h true }
        | .part _ => t
        | .notice => t
        | .withdraw _ => t
        | .touch => t
        | .forward _ _ => t
        | .post _ => t }

/-- The reply of `e` leaves its return queue, and the blocks of a delivered REPLY are released (R67). -/
def discardReply (e : EntryIx) (s : State) : State :=
  let x := s.entry e
  let blocks := match (s.chan x.chan).ret.find? (fun i => i.entry == e) with
    | some i => match i.frame with | some f => f.blocks | none => 0
    | none => 0
  let s := s.setChan x.chan { s.chan x.chan with ret := (s.chan x.chan).ret.filter (fun i => i.entry != e) }
  release x.responder blocks s

/-- Entry `e` of requester `p` is dropped without reply (R67). -/
def dropExchange (p : Port) (e : EntryIx) (s : State) : State :=
  let x := s.entry e
  match x.st with
  | .free => s
  | .replying =>
    if x.tag.isNone then s
    else
      let s := if replyInFlight s p e then markDropped p s else discardReply e s
      replyGone e (s.setEntry e { s.entry e with status := none })
  | .queued =>
    let s := dropRequest e (leaveRetries e (leaveForward e s))
    let s := s.setEntry e { s.entry e with st := .replying, status := none, deadline := none }
    replyGone e (if x.fwdOnce then makeWithdraw e s else s)
  | .forwarded =>
    let s := dropRequest e s
    let s := s.setEntry e { s.entry e with st := .replying, status := none, deadline := none }
    replyGone e (if x.fwdOnce then makeWithdraw e s else s)

/-- Every live entry whose requester is `p` is dropped, in ascending index (R67, R167 step 2). -/
def dropRequests (p : Port) (s : State) : State :=
  allEntries.foldl (fun s e => if (s.entry e).requester = p then dropExchange p e s else s) s

/-- The posts from `p` in the forward queue of `c` are discarded without verdict (R20, R167 step 2). -/
def dropPosts (p : Port) (c : Chn) (s : State) : State :=
  let gone := (postsOf (s.chan c).fwd).filter (fun m => m.sender == p)
  let s := s.setChan c
    { s.chan c with
      fwd := (s.chan c).fwd.filter fun i => match i with | .request _ => true | .post m => m.sender != p }
  gone.foldl (fun s m => dropPost m s) s

/-- The work of `c` toward `p` ends with status `st`, and the posts to `p` are discarded with verdict ABSENT (R68, R167
step 3). -/
def endToward (p : Port) (st : Status) (c : Chn) (s : State) : State :=
  let ch := s.chan c
  let mine (e : EntryIx) : Bool := (s.entry e).responder == p
  let rs := ch.retries.filter mine
  let qs := (requestsOf ch.fwd).filter mine
  let fs := (forwardedOn s c).filter mine
  let ps := (postsOf ch.fwd).filter (fun m => m.peer == p)
  let s := s.setChan c
    { ch with
      retries := ch.retries.filter (fun e => !mine e)
      fwd := ch.fwd.filter fun i => match i with | .request e => !mine e | .post m => m.peer != p }
  let s := endAll fs st (endAll qs st (endAll rs st s))
  ps.foldl (fun s m => discardPost c .absent m s) s

/-- The blocks of a draw frame. -/
def DrawFrame.blocks : DrawFrame → Nat
  | .window _ n => n
  | .pixels _ n => n

/-- The teardown of the draw state of `x` (R138). -/
def tearDraw (x : Screen) (s : State) : State :=
  let q := (s.draw x).queue
  let total := (q.map DrawFrame.blocks).sum
  match s.run with
  | some r =>
    if r.source = .frame x ∧ r.last = none then
      let mine := match q with | f :: _ => f.blocks | [] => 0
      (release (portOfScreen x) (total - mine) (s.setDraw x .initial)).setRun (some { r with last := some mine })
    else release (portOfScreen x) total (s.setDraw x .initial)
  | none => release (portOfScreen x) total (s.setDraw x .initial)

/-- The teardown of port `p`, in the order of R167; `st` is RESTARTED after a restart and ABSENT after a stall (R169). -/
def teardown (p : Port) (st : Status) (s : State) : State :=
  let s := discardParts p s
  let s := allChns.foldl (fun s c => dropPosts p c s) (dropRequests p s)
  let s := allChns.foldl (fun s c => endToward p st c s) s
  let s := match screenOf p with
    | some x => tearTouch x (tearDraw x s)
    | none => s
  let s := clearNotices p s
  let s := if p = .pd then closeForPd s else s
  latch .pd .linkChange s

end Sys2Proof.Machine
end

