-- ==== Sys2Proof/Machine/Receive.lean ====
section
/-! DEFINITION. Receive assembly (R158, R159): what a byte completes, charging a header (R37 to R39), discards, and handing a
good frame on (R160). -/

namespace Sys2Proof.Machine

/-- What the arrival of a byte is, in a state of receive assembly: the step of the table it belongs to. -/
inductive ByteClass where
  | assembly
  | unknownType
  | lengthOverrun (ty : FrameType) (lo : Byte)
  | header (ty : FrameType) (lo : Byte)
  | crcMismatch (f : RxFrame)
  | good (f : RxFrame)
  deriving DecidableEq, Repr

/-- The byte `b` completes the frame `f` whose first CRC byte was `hi` with a CRC that matches (R156). -/
def crcMatches (f : RxFrame) (hi b : Byte) : Bool := hi == crcHigh f.crc && b == crcLow f.crc

/-- The class of the byte `b` (R156, R158, R170). -/
def classify (rx : Rx) (b : Byte) : ByteClass :=
  match rx with
  | .hunt => .assembly
  | .late f hi => if crcMatches f hi b then .good f else .assembly
  | .type _ => if (frameTypeOf b).isSome then .assembly else .unknownType
  | .length1 _ _ => .assembly
  | .length2 ty lo _ => if (b ++ lo).toNat ≤ maxBody then .header ty lo else .lengthOverrun ty lo
  | .body _ _ => .assembly
  | .crc1 _ _ => .assembly
  | .crc2 f hi _ => if crcMatches f hi b then .good f else .crcMismatch f

/-- Receive assembly of the link of `p`. -/
def rxOf (s : State) (p : Port) : Rx := (s.link p).rx

/-- Replace receive assembly of the link of `p`. -/
def setRx (p : Port) (v : Rx) (s : State) : State := s.setLink p { s.link p with rx := v }

/-- A byte examined in HUNT (R158). -/
def huntNext (now : Time) (b : Byte) : Rx := if b = syncByte then .type now else .hunt

/-- A body byte is taken: the running CRC covers it, and it is stored where the frame is held in charged blocks. -/
def RxFrame.take (f : RxFrame) (b : Byte) : RxFrame :=
  { f with
    got := f.got + 1
    body := (match f.hold with
      | .charged _ => f.body ++ [b]
      | .reserve => f.body
      | .dropped => f.body
      | .uncharged => f.body)
    first := if f.got = 0 then some b else f.first
    crc := crcByte f.crc b }

/-- The state after a byte that completes nothing (R158). -/
def assembleNext (now : Time) (rx : Rx) (b : Byte) : Rx :=
  match rx with
  | .hunt => huntNext now b
  | .late _ _ => huntNext now b
  | .type seen => match frameTypeOf b with
    | some ty => .length1 ty now
    | none => .type seen
  | .length1 ty _ => .length2 ty b now
  | .length2 ty lo seen => .length2 ty lo seen
  | .body f _ => if f.got + 1 < f.len then .body (f.take b) now else .crc1 (f.take b) now
  | .crc1 f _ => .crc2 f b now
  | .crc2 f hi seen => .crc2 f hi seen

/-- A byte examined again after a discard, in order, starting in HUNT (R158). Three bytes at most are examined again, so
no header can complete. -/
def reexamine (p : Port) (b : Byte) (s : State) : State :=
  match rxOf s p with
  | .type _ =>
    match frameTypeOf b with
    | some ty => setRx p (.length1 ty s.time) s
    | none => setRx p (huntNext s.time b) (countError p s)
  | .length1 ty _ => setRx p (.length2 ty b s.time) s
  | .hunt => setRx p (huntNext s.time b) s
  | .late _ _ => setRx p (huntNext s.time b) s
  | .length2 _ _ _ => s
  | .body _ _ => s
  | .crc1 _ _ => s
  | .crc2 _ _ _ => s

/-- Charge the blocks of a frame whose header is complete, or keep it in a reserve block, or drop it (R37 to R39). -/
def holdFrame (p : Port) (ty : FrameType) (n : Nat) (s : State) : RxHold × State :=
  if (s.link p).state = .up ∨ ty = .hello then
    if blocksOf n ≤ freeBlocks p s then (.charged (blocksOf n), charge p (blocksOf n) s)
    else if (s.link p).reserve < reserveBlocks then (.reserve, takeReserve p s)
    else (.dropped, countError p s)
  else (.uncharged, s)

/-- The header of a frame is complete (R37, R158). -/
def takeHeader (p : Port) (ty : FrameType) (lo hi : Byte) (s : State) : State :=
  let n := (hi ++ lo).toNat
  let h := holdFrame p ty n s
  let f : RxFrame :=
    { ty := ty, len := n, hold := h.1, got := 0, body := [], first := none, crc := crcOf [ty.code, lo, hi] }
  setRx p (if n = 0 then .crc1 f h.2.time else .body f h.2.time) h.2

/-- The frame in receive assembly, where its header is complete. -/
def partialFrame : Rx → Option RxFrame
  | .hunt => none
  | .late _ _ => none
  | .type _ => none
  | .length1 _ _ => none
  | .length2 _ _ _ => none
  | .body f _ => some f
  | .crc1 f _ => some f
  | .crc2 f _ _ => some f

/-- The arrival time of the latest byte, inside a frame (R159). -/
def lastSeen : Rx → Option Time
  | .hunt => none
  | .late _ _ => none
  | .type t => some t
  | .length1 _ t => some t
  | .length2 _ _ t => some t
  | .body _ t => some t
  | .crc1 _ t => some t
  | .crc2 _ _ t => some t

/-- Release what a frame being received holds (R37, R38, R159). -/
def releaseHold (p : Port) (h : RxHold) (s : State) : State :=
  match h with
  | .charged n => release p n s
  | .reserve => freeReserve p s
  | .dropped => s
  | .uncharged => s

/-- A partial frame is discarded, and receive assembly returns to HUNT (R155, R159, R169). -/
def discardPartial (p : Port) (s : State) : State :=
  let s := match partialFrame (rxOf s p) with
    | some f => releaseHold p f.hold s
    | none => s
  setRx p .hunt s

/-- The frame that a stall discards where only its second CRC byte is missing, as that byte may still find it (R170): its blocks
are released (R169). A frame dropped at its header stays dropped. -/
def RxFrame.stalled (f : RxFrame) : RxFrame :=
  { f with
    hold := match f.hold with
      | .dropped => .dropped
      | .charged _ => .uncharged
      | .reserve => .uncharged
      | .uncharged => .uncharged }

/-- Receive assembly after a stall has discarded a partial frame (R169, R170). -/
def Rx.stalled : Rx → Rx
  | .crc2 f hi _ => .late f.stalled hi
  | .hunt => .hunt
  | .late _ _ => .hunt
  | .type _ => .hunt
  | .length1 _ _ => .hunt
  | .length2 _ _ _ => .hunt
  | .body _ _ => .hunt
  | .crc1 _ _ => .hunt

/-- Receive assembly once a frame that lacked its second CRC byte at a stall can no longer have it (R170). -/
def Rx.settled : Rx → Rx
  | .late _ _ => .hunt
  | .hunt => .hunt
  | .type t => .type t
  | .length1 ty t => .length1 ty t
  | .length2 ty lo t => .length2 ty lo t
  | .body f t => .body f t
  | .crc1 f t => .crc1 f t
  | .crc2 f hi t => .crc2 f hi t

/-- The inter-byte timeout of the link of `p` is reached at this moment (R159). -/
def rxTimedOut (s : State) (p : Port) : Bool :=
  match lastSeen (rxOf s p) with
  | some t => s.time == after t interByteLimit
  | none => false

/-- The frame type is one whose NOSPACE verdict gives the channel (R38). -/
def FrameType.namesChannel : FrameType → Bool
  | .request => true
  | .post => true
  | .reply => true
  | .hello => false
  | .extend => false
  | .cancel => false
  | .control => false
  | .drawWindow => false
  | .drawPixels => false

/-- The identifying fields of a NOSPACE verdict (R38, R164). -/
def nospaceIds (f : RxFrame) : List Byte := if f.ty.namesChannel then f.first.toList else []

/-- A good frame other than HELLO is handed on to `take` with its blocks and body on an UP link; otherwise it is answered
NOSPACE from its reserve block, or is gone, or is discarded and counted (R38, R160). -/
def handOn (p : Port) (f : RxFrame) (take : Nat → List Byte → State → State) (s : State) : State :=
  match f.hold with
  | .charged n => if (s.link p).state = .up then take n f.body s else countError p (release p n s)
  | .reserve => pushPart p { what := .verdict .nospace f.ty.code (nospaceIds f), block := .reserve } s
  | .dropped => s
  | .uncharged => countError p s

/-- The end of the event of a byte on the link of `p`: the take and the grants, and, where the byte clocked out the last CRC
byte of the frame in transmission on an SPI link, the completion of that transmission as the next event (R83, R154; log
entry 12). -/
def byteEnd (p : Port) (s : State) : State :=
  let s := settle s
  if clockedOut s p then settle (endTx p true s) else s

/-- The event of a byte on the link of `p`: what it presents on an SPI link, its effect, and what follows. -/
def byteEvent (p : Port) (k : State → State) (s : State) : State := byteEnd p (k (clockOut p s))

/-- The event of the second CRC byte of a good frame that satisfies `want`: the frame leaves receive assembly and `k` takes
it. Where the byte completes no such frame, no event of this kind takes place (log entry 2). -/
def frameEvent (p : Port) (b : Byte) (want : RxFrame → Bool) (k : RxFrame → State → State) (s : State) : State :=
  match classify (rxOf s p) b with
  | .good f => if want f then byteEvent p (fun s => k f (setRx p .hunt s)) s else s
  | .assembly => s
  | .unknownType => s
  | .lengthOverrun _ _ => s
  | .header _ _ => s
  | .crcMismatch _ => s

/-- `frameEvent` for a frame of type `ty` other than HELLO. -/
def typedFrame (ty : FrameType) (p : Port) (b : Byte) (take : Nat → List Byte → State → State) (s : State) : State :=
  frameEvent p b (fun f => f.ty == ty) (fun f s => handOn p f take s) s

end Sys2Proof.Machine
end

