-- ==== Sys2Proof/Machine/ControlFamily.lean ====
section
/-! DEFINITION. Commands of the control endpoint (R171 to R179, R183, R184) and the policy, session and touch requests it hands
on (R87 to R93, R100, R106, R112, R145). -/

namespace Sys2Proof.Machine

/-! ## The endpoint -/

/-- What a request answers: its status, its result bytes, and the state it leaves. -/
structure Answered where
  status : CtlStatus
  result : List Byte
  state : State
  deriving DecidableEq, Repr

/-- A refusal of a request: nothing changes (R173). -/
def refuse (st : CtlStatus) (s : State) : Answered := { status := st, result := [], state := s }

/-- The checks of R173 that come before a request's own: who may make it, and the number of argument bytes. -/
def checked (c : Ctl) (p : Port) (args : List Byte) (act : State → Answered) (s : State) : Answered :=
  if c.pdOnly = true ∧ p ≠ .pd then refuse .denied s
  else if args.length ≠ c.argBytes then refuse .badarg s
  else act s

/-- The CONTROL_REPLY is built in the first block and joins the queue as the last frame of the event (R171). -/
def controlAnswer (p : Port) (code tag : Byte) (a : Answered) : State :=
  pushPart p { what := .controlReply code tag a.status a.result, block := .charged } a.state

/-- A CONTROL of `n` blocks and body `body` for request `c`: all blocks but the first are released when it is taken (R40). -/
def endpoint (c : Ctl) (p : Port) (act : List Byte → State → Answered) (n : Nat) (body : List Byte) (s : State) : State :=
  controlAnswer p (byteAt body 0) (byteAt body 1)
    (checked c p (argsOf body) (act (argsOf body)) (release p (n - 1) s))

/-- A good CONTROL frame is one of request `c`; where its body was not stored it may be any (R38, R160). -/
def isControl (want : List Byte → Bool) (f : RxFrame) : Bool :=
  f.ty == .control &&
    match f.hold with
    | .charged _ => want f.body
    | .reserve => true
    | .dropped => true
    | .uncharged => true

/-- The body has a request code of `c`. -/
def asksFor (c : Ctl) (body : List Byte) : Bool := decide (2 ≤ body.length) && ctlOf (byteAt body 0) == some c

/-- The event of a good CONTROL of request `c`. -/
def controlFrame (c : Ctl) (p : Port) (b : Byte) (act : List Byte → State → Answered) (s : State) : State :=
  frameEvent p b (isControl (asksFor c)) (fun f s => handOn p f (endpoint c p act) s) s

/-- CONTROL_MALFORMED: a body shorter than 2 bytes is answered with verdict MALFORMED (R171). -/
def execControlMalformed (p : Port) (b : Byte) (s : State) : Result :=
  .next (frameEvent p b (isControl (fun body => decide (body.length < 2)))
    (fun f s => handOn p f (fun n body s => verdict p n .malformed .control (idsOf 2 body) s) s) s)

/-- UNKNOWN_REQUEST: a request code outside the table is answered UNKNOWN (R173). -/
def execUnknownRequest (p : Port) (b : Byte) (s : State) : Result :=
  .next (frameEvent p b (isControl (fun body => decide (2 ≤ body.length) && (ctlOf (byteAt body 0)).isNone))
    (fun f s =>
      handOn p f
        (fun n body s =>
          controlAnswer p (byteAt body 0) (byteAt body 1) (refuse .unknown (release p (n - 1) s))) s) s)

/-! ## Queries -/

/-- The result bytes of a QUERY_LINK from `p` for port `q` (R175). -/
def linkBytes (s : State) (p q : Port) : List Byte :=
  let l := s.link q
  [l.state.code] ++ leNat l.errors ++
    [countByte (s.chargedTo q), countByte (heldBy s q), modeCode (settingsOf s q).mode,
     countByte (settingsOf s q).stallLimit]
    ++ (if p = .pd then [s.touch.link.code, countByte s.touch.failures] else [])

/-- QUERY_LINK (R175). -/
def actQueryLink (p : Port) (a : List Byte) (s : State) : Answered :=
  match portOf (byteAt a 0) with
  | none => refuse .badarg s
  | some q => if p ≠ .pd ∧ q ≠ p then refuse .denied s else { status := .done, result := linkBytes s p q, state := s }

/-- QUERY_LINK. -/
def execQueryLink (p : Port) (b : Byte) (s : State) : Result := .next (controlFrame .queryLink p b (actQueryLink p) s)

/-- The runtime part of a QUERY_CHANNEL answer (R176). -/
def runtimeBytes (s : State) (c : Chn) : List Byte :=
  let ch := s.chan c
  leNat ch.credit ++
    [flagByte ch.ownHold (forcedHold s c) ch.bar, countByte ch.outstanding, countByte ch.fwd.length,
     countByte ch.retries.length, countByte ch.ret.length]

/-- The result bytes of a QUERY_CHANNEL that reads the record `r` at number `c` (R176). -/
def channelBytes (s : State) (r : Option ChannelRecord) (c : Chn) : List Byte :=
  (match r with | some r => 1#8 :: recordBytes r | none => [0#8]) ++ runtimeBytes s c

/-- The record an area code reads for PD: 0 names the active area (R92, R176). -/
def readArea (s : State) (code : Byte) (c : Chn) : Option (Option ChannelRecord) :=
  if code = 0#8 then some (recordOf s c)
  else
    match areaOf code with
    | some i => some ((areaOfId s i).recs.get c)
    | none => none

/-- QUERY_CHANNEL (R176). -/
def actQueryChannel (p : Port) (a : List Byte) (s : State) : Answered :=
  match chnOf (byteAt a 0).toNat with
  | none => refuse (if p = .pd then .badarg else .denied) s
  | some c =>
    if p = .pd then
      match readArea s (byteAt a 1) c with
      | some r => { status := .done, result := channelBytes s r c, state := s }
      | none => refuse .badarg s
    else
      match recordOf s c with
      | some r =>
        if r.owner = p ∨ r.peer = p then { status := .done, result := channelBytes s (some r) c, state := s }
        else refuse .denied s
      | none => refuse .denied s

/-- QUERY_CHANNEL. -/
def execQueryChannel (p : Port) (b : Byte) (s : State) : Result :=
  .next (controlFrame .queryChannel p b (actQueryChannel p) s)

/-- The remaining time of an ACTIVE session, 0 otherwise (R121, R177). -/
def remainingTime (s : State) : Time :=
  match s.session.state, s.session.limitAt with
  | .active, some t => t - s.time
  | _, _ => 0#32

/-- The fill rows still to be taken while CLOSING with blank, 0 otherwise (R121, R177). -/
def rowsLeft (s : State) : Nat :=
  match s.session.state, s.session.record.bind (·.fill) with
  | .closing, some f => f.last + 1 - f.next
  | _, _ => 0

/-- A colour with its given byte (R177). -/
def colourBytes : Option Half → List Byte
  | some c => 1#8 :: leHalf c
  | none => 0#8 :: leHalf 0#16

/-- The close request (R177). -/
def closeBytes : Option Close → List Byte
  | some (.blank c) => [1#8, 1#8] ++ leHalf c
  | some .plain => [1#8, 0#8] ++ leHalf 0#16
  | none => [0#8, 0#8] ++ leHalf 0#16

/-- The result bytes of a QUERY_SESSION (R121, R177). -/
def sessionBytes (s : State) (p : Port) : List Byte :=
  let r := s.session.record
  [s.session.state.code, boolByte s.session.secureInd,
   (match r with | some r => boolByte r.capture | none => 2#8), areaCode s.policy.active,
   (match s.policy.pendingSwitch with | some t => areaCode t | none => 0#8)]
    ++ (if p = .pd then
          (match r with
            | some r => rectBytes r.rect ++ leNat r.limit
            | none => rectBytes ⟨0, 0, 0, 0⟩ ++ leNat 0)
            ++ colourBytes (r.bind (·.openColour)) ++ closeBytes (r.bind (·.closeReq)) ++ leTime (remainingTime s)
            ++ leNat (rowsLeft s)
        else [])

/-- QUERY_SESSION (R121, R177). -/
def actQuerySession (p : Port) (_ : List Byte) (s : State) : Answered :=
  { status := .done, result := sessionBytes s p, state := s }

/-- QUERY_SESSION. -/
def execQuerySession (p : Port) (b : Byte) (s : State) : Result :=
  .next (controlFrame .querySession p b (actQuerySession p) s)

/-- QUERY_NOTICES (R184). -/
def actQueryNotices (p : Port) (_ : List Byte) (s : State) : Answered :=
  { status := .done, result := leHalf (s.notice p).set ++ leHalf (s.notice p).mask, state := takeNotices p s }

/-- QUERY_NOTICES. -/
def execQueryNotices (p : Port) (b : Byte) (s : State) : Result :=
  .next (controlFrame .queryNotices p b (actQueryNotices p) s)

/-- SET_NOTICE_MASK (R183). -/
def actSetNoticeMask (p : Port) (a : List Byte) (s : State) : Answered :=
  { status := .done, result := leHalf (halfAt a 0 &&& conditionPlaces), state := replaceMask p (halfAt a 0) s }

/-- SET_NOTICE_MASK. -/
def execSetNoticeMask (p : Port) (b : Byte) (s : State) : Result :=
  .next (controlFrame .setNoticeMask p b (actSetNoticeMask p) s)

/-! ## Flow controls -/

/-- The checks of HOLD and RELEASE (R178): the channel and its record, or the status that refuses. -/
def flowCheck (p : Port) (a : List Byte) (s : State) : Except CtlStatus (Chn × ChannelRecord) :=
  match chnOf (byteAt a 0).toNat with
  | none => .error .badarg
  | some c =>
    match recordOf s c with
    | none => .error .badarg
    | some r => if p = r.peer ∨ p = .pd then .ok (c, r) else .error .denied

/-- HOLD (R9, R178). -/
def actHold (p : Port) (a : List Byte) (s : State) : Answered :=
  match flowCheck p a s with
  | .error st => refuse st s
  | .ok (c, _) => { status := .done, result := [boolByte (forcedHold s c)], state := setOwnHold c true s }

/-- HOLD. -/
def execHold (p : Port) (b : Byte) (s : State) : Result := .next (controlFrame .hold p b (actHold p) s)

/-- Own HOLD of `c` is cleared; where effective HOLD goes from set to clear, RELEASED is latched for the owner (R9, R13). -/
def releaseChannel (c : Chn) (r : ChannelRecord) (s : State) : State :=
  let t := setOwnHold c false s
  if effectiveHold s c && !effectiveHold t c then latch r.owner .released t else t

/-- RELEASE (R9, R178). -/
def actRelease (p : Port) (a : List Byte) (s : State) : Answered :=
  match flowCheck p a s with
  | .error st => refuse st s
  | .ok (c, r) => { status := .done, result := [boolByte (forcedHold s c)], state := releaseChannel c r s }

/-- RELEASE. -/
def execRelease (p : Port) (b : Byte) (s : State) : Result := .next (controlFrame .release p b (actRelease p) s)

/-- The present channel a SET_BAR or CLEAR_BAR names (R15, R179). -/
def presentChannel (a : List Byte) (s : State) : Option (Chn × ChannelRecord) :=
  match chnOf (byteAt a 0).toNat with
  | none => none
  | some c => (recordOf s c).map (fun r => (c, r))

/-- SET_BAR (R14, R15, R179). -/
def actSetBar (a : List Byte) (s : State) : Answered :=
  match presentChannel a s with
  | none => refuse .badarg s
  | some (c, r) =>
    { status := .done, result := [], state := if (s.chan c).bar then s else barChannel c r.owner s }

/-- SET_BAR. -/
def execSetBar (p : Port) (b : Byte) (s : State) : Result := .next (controlFrame .setBar p b actSetBar s)

/-- CLEAR_BAR (R15, R179). -/
def actClearBar (a : List Byte) (s : State) : Answered :=
  match presentChannel a s with
  | none => refuse .badarg s
  | some (c, _) => { status := .done, result := [], state := s.setChan c { s.chan c with bar := false } }

/-- CLEAR_BAR. -/
def execClearBar (p : Port) (b : Byte) (s : State) : Result := .next (controlFrame .clearBar p b actClearBar s)

/-! ## Policy requests -/

/-- Steps 2 and 3 of R87: the area named, where it is the inactive one. -/
def inactiveArea (code : Byte) (s : State) : Except CtlStatus AreaId :=
  match areaOf code with
  | none => .error .badarg
  | some i => if i = s.policy.active then .error .inuse else .ok i

/-- Replace the contents of an area. -/
def setArea (i : AreaId) (v : Area) (s : State) : State :=
  match i with
  | .a => s.setPolicy { s.policy with areaA := v }
  | .b => s.setPolicy { s.policy with areaB := v }

/-- Replace one record position of an area (R88, R89). -/
def setPosition (i : AreaId) (c : Chn) (r : Option ChannelRecord) (s : State) : State :=
  let v := areaOfId s i
  setArea i { v with recs := v.recs.set c.val r c.isLt } s

/-- WRITE_CHANNEL (R2, R87, R88). -/
def actWriteChannel (a : List Byte) (s : State) : Answered :=
  match inactiveArea (byteAt a 0) s with
  | .error st => refuse st s
  | .ok i =>
    match chnOf (byteAt a 1).toNat, readRecord a with
    | some c, some r => { status := .done, result := [], state := setPosition i c (some r.clamp) s }
    | _, _ => refuse .badarg s

/-- WRITE_CHANNEL. -/
def execWriteChannel (p : Port) (b : Byte) (s : State) : Result :=
  .next (controlFrame .writeChannel p b actWriteChannel s)

/-- REMOVE_CHANNEL (R87, R89). -/
def actRemoveChannel (a : List Byte) (s : State) : Answered :=
  match inactiveArea (byteAt a 0) s with
  | .error st => refuse st s
  | .ok i =>
    match chnOf (byteAt a 1).toNat with
    | some c => { status := .done, result := [], state := setPosition i c none s }
    | none => refuse .badarg s

/-- REMOVE_CHANNEL. -/
def execRemoveChannel (p : Port) (b : Byte) (s : State) : Result :=
  .next (controlFrame .removeChannel p b actRemoveChannel s)

/-- WRITE_SETTINGS (R87, R90). -/
def actWriteSettings (a : List Byte) (s : State) : Answered :=
  match inactiveArea (byteAt a 0) s with
  | .error st => refuse st s
  | .ok i =>
    match readSettings a with
    | some (v, banner) =>
      { status := .done, result := settingsBytes v banner,
        state := setArea i { areaOfId s i with settings := v, bannerRows := banner } s }
    | none => refuse .badarg s

/-- WRITE_SETTINGS. -/
def execWriteSettings (p : Port) (b : Byte) (s : State) : Result :=
  .next (controlFrame .writeSettings p b actWriteSettings s)

/-- COPY_AREA (R87, R91). -/
def actCopyArea (a : List Byte) (s : State) : Answered :=
  match inactiveArea (byteAt a 0) s with
  | .error st => refuse st s
  | .ok i => { status := .done, result := [], state := setArea i (activeArea s) s }

/-- COPY_AREA. -/
def execCopyArea (p : Port) (b : Byte) (s : State) : Result := .next (controlFrame .copyArea p b actCopyArea s)

/-- A switch asked for during a session: a pending switch already present stays as it was (R93). -/
def deferSwitch (i : AreaId) (s : State) : State :=
  s.setPolicy { s.policy with pendingSwitch := s.policy.pendingSwitch.or (some i) }

/-- ACTIVATE (R93). -/
def actActivate (a : List Byte) (s : State) : Answered :=
  match areaOf (byteAt a 0) with
  | none => refuse .badarg s
  | some i =>
    if i = s.policy.active then
      { status := .done, result := [0#8], state := s.setPolicy { s.policy with pendingSwitch := none } }
    else if s.session.state = .idle then { status := .done, result := [1#8], state := takeSwitch i s }
    else { status := .done, result := [2#8], state := deferSwitch i s }

/-- ACTIVATE. -/
def execActivate (p : Port) (b : Byte) (s : State) : Result := .next (controlFrame .activate p b actActivate s)

/-- FULL_CLEAR (R100). -/
def actFullClear (_ : List Byte) (s : State) : Answered :=
  if s.session.state = .idle then { status := .done, result := [], state := clearAll s } else refuse .busy s

/-- FULL_CLEAR. -/
def execFullClear (p : Port) (b : Byte) (s : State) : Result := .next (controlFrame .fullClear p b actFullClear s)

/-! ## Session and touch requests -/

/-- OPEN_SESSION (R106, R107). -/
def actOpenSession (a : List Byte) (s : State) : Answered :=
  let o := readOpen a
  if s.session.state ≠ .idle then refuse .busy s
  else if o.rect.inverted then refuse .badarg s
  else
    let t := openSession o s
    { status := .done,
      result := rectBytes o.rect ++ leNat o.limit ++ [if t.session.state = .active then 1#8 else 0#8], state := t }

/-- OPEN_SESSION. -/
def execOpenSession (p : Port) (b : Byte) (s : State) : Result :=
  .next (controlFrame .openSession p b actOpenSession s)

/-- The close a CLOSE_SESSION asks for: the colour given, else the open fill colour, else 0x0000; a close without blank takes
no colour (R112). -/
def closeOf (a : List Byte) (s : State) : Close :=
  let c := readClose a
  if c.1 then .blank ((c.2.or (s.session.record.bind (·.openColour))).getD 0#16) else .plain

/-- CLOSE_SESSION (R112). -/
def actCloseSession (a : List Byte) (s : State) : Answered :=
  match s.session.state with
  | .idle => refuse .notOpen s
  | .opening =>
    if (s.session.record.bind (·.closeReq)).isSome then refuse .busy s
    else { status := .done, result := [0#8], state := storeClose (closeOf a s) s }
  | .active =>
    { status := .done, result := [match closeOf a s with | .blank _ => 1#8 | .plain => 2#8],
      state := enterClosing (closeOf a s) s }
  | .closing => refuse .busy s

/-- CLOSE_SESSION. -/
def execCloseSession (p : Port) (b : Byte) (s : State) : Result :=
  .next (controlFrame .closeSession p b actCloseSession s)

/-- TOUCH_RESTART (R145). -/
def actTouchRestart (_ : List Byte) (s : State) : Answered :=
  let t := if s.touch.link = .fault then touchIdle (s.setTouch { s.touch with failures := 0 }) else s
  { status := .done, result := [t.touch.link.code], state := t }

/-- TOUCH_RESTART. -/
def execTouchRestart (p : Port) (b : Byte) (s : State) : Result :=
  .next (controlFrame .touchRestart p b actTouchRestart s)

end Sys2Proof.Machine
end

