-- ==== Sys2Proof/Machine/LinkFamily.lean ====
section
/-! DEFINITION. Commands of the link units: power-on reset, headers, discards, timeouts, framing errors, CTS, HELLO, the end of
a transmission and stalls. -/

namespace Sys2Proof.Machine

/-- POWER_ON_RESET: every block takes its power-on values. The two input levels are the board's and stand; where the
attention input is asserted a read begins at once (R141). The commands that wait are outside the part. -/
def execPowerOnReset (s : State) : Result :=
  .next
    { State.reset with
      pending := s.pending
      radio := { State.reset.radio with cts := s.radio.cts }
      touch := { State.reset.touch with
                 attention := s.touch.attention
                 link := if s.touch.attention then .reading else .idle } }

/-- FRAME_HEADER (R37 to R39, R158). -/
def execFrameHeader (p : Port) (b : Byte) (s : State) : Result :=
  match classify (rxOf s p) b with
  | .header ty lo => .next (byteEvent p (takeHeader p ty lo b) s)
  | .assembly => .next s
  | .unknownType => .next s
  | .lengthOverrun _ _ => .next s
  | .crcMismatch _ => .next s
  | .good _ => .next s

/-- UNKNOWN_TYPE_DISCARD: the sync candidate is discarded and counted, and the byte is examined again in HUNT (R158). -/
def execUnknownTypeDiscard (p : Port) (b : Byte) (s : State) : Result :=
  match classify (rxOf s p) b with
  | .unknownType => .next (byteEvent p (fun s => reexamine p b (setRx p .hunt (countError p s))) s)
  | .assembly => .next s
  | .lengthOverrun _ _ => .next s
  | .header _ _ => .next s
  | .crcMismatch _ => .next s
  | .good _ => .next s

/-- LENGTH_OVERRUN_DISCARD: the sync candidate is discarded and counted, and the type byte and both length bytes are examined
again, in order, in HUNT (R158). -/
def execLengthOverrunDiscard (p : Port) (b : Byte) (s : State) : Result :=
  match classify (rxOf s p) b with
  | .lengthOverrun ty lo =>
    .next (byteEvent p
      (fun s => reexamine p b (reexamine p lo (reexamine p ty.code (setRx p .hunt (countError p s))))) s)
  | .assembly => .next s
  | .unknownType => .next s
  | .header _ _ => .next s
  | .crcMismatch _ => .next s
  | .good _ => .next s

/-- CRC_MISMATCH: the frame is discarded whole, its blocks are released and the error count rises (R38, R158). -/
def execCrcMismatch (p : Port) (b : Byte) (s : State) : Result :=
  match classify (rxOf s p) b with
  | .crcMismatch f => .next (byteEvent p (fun s => countError p (releaseHold p f.hold (setRx p .hunt s))) s)
  | .assembly => .next s
  | .unknownType => .next s
  | .lengthOverrun _ _ => .next s
  | .header _ _ => .next s
  | .good _ => .next s

/-- The inter-byte timeout of the link of `p`, where it is reached (R159). -/
def interByteEvent (p : Port) (s : State) : State :=
  if rxTimedOut s p then settle (countError p (discardPartial p s)) else s

/-- INTER_BYTE_TIMEOUT (R159). -/
def execInterByteTimeout (p : Port) (s : State) : Result := .next (interByteEvent p s)

/-- FRAMING_ERROR on the radio link: inside a frame it discards the partial frame and is counted; in HUNT it is passed over
(R155, R159). -/
def execFramingError (s : State) : Result :=
  match lastSeen (rxOf s .rd) with
  | some _ => .next (settle (countError .rd (discardPartial .rd s)))
  | none => .next (setRx .rd (rxOf s .rd).settled s)

/-- CTS_CHANGE (R155). -/
def execCtsChange (asserted lastStarted : Bool) (s : State) : Result :=
  .next (s.setRadio { s.radio with cts := asserted, lastStarted := lastStarted })

/-- The frame in transmission on the link of `p` may be at its end. On an SPI link its last CRC byte has been clocked out
(R154); the byte that clocks it out ends it in its own event (`byteEnd`). On the radio link no byte is started while CTS is
released, so only a last byte already started completes it (R155). -/
def txMayEnd (s : State) (p : Port) : Bool :=
  if p = .rd then s.radio.cts || s.radio.lastStarted else clockedOut s p

/-- The completion of a transmission on the link of `p`, where one is in progress and may end (R83). -/
def completeEvent (p : Port) (s : State) : State :=
  if (s.arb p).tx.isSome && txMayEnd s p then settle (endTx p true s) else s

/-- TRANSMISSION_COMPLETE (R53, R64, R74, R83, R154, R155, R182). -/
def execTransmissionComplete (p : Port) (s : State) : Result := .next (completeEvent p s)

/-- The HELLO_REPLY with link event `ev` joins the internal part-frame queue (R163, R166, R167). -/
def pushHelloReply (p : Port) (ev : Byte) (block : BlockRef) (s : State) : State :=
  pushPart p { what := .helloReply ev (s.link p).errors, block := block } s

/-- An empty HELLO is taken (R10, R165 to R167): `block` is the block it is kept in. -/
def takeHello (p : Port) (block : BlockRef) (s : State) : State :=
  match (s.link p).state with
  | .up => pushHelloReply p 1#8 block (holdPeerChannels p (teardown p .restarted s))
  | .down =>
    pushHelloReply p 0#8 block
      (latch .pd .linkChange (holdPeerChannels p (s.setLink p { s.link p with state := .up })))
  | .stalled =>
    pushHelloReply p 2#8 block
      (latch .pd .linkChange (holdPeerChannels p (s.setLink p { s.link p with state := .up })))

/-- A good HELLO of body length `len` held as `h` (R39, R160): one with a body is malformed, discarded and counted. -/
def heldHello (p : Port) (len : Nat) (h : RxHold) (s : State) : State :=
  match h with
  | .charged n => if len = 0 then takeHello p .charged (release p (n - 1) s) else countError p (release p n s)
  | .reserve => if len = 0 then takeHello p .reserve s else countError p (freeReserve p s)
  | .dropped => s
  | .uncharged => countError p s

/-- A good HELLO frame. One whose blocks a stall of the same millisecond has released is held again, as at its header
(R39, R170; log entry 18). -/
def goodHello (p : Port) (f : RxFrame) (s : State) : State :=
  match f.hold with
  | .charged n => heldHello p f.len (.charged n) s
  | .reserve => heldHello p f.len .reserve s
  | .dropped => heldHello p f.len .dropped s
  | .uncharged =>
    let h := holdFrame p .hello f.len s
    heldHello p f.len h.1 h.2

/-- HELLO. -/
def execHello (p : Port) (b : Byte) (s : State) : Result :=
  .next (frameEvent p b (fun f => f.ty == .hello) (goodHello p) s)

/-- The stall of port `p` (R169): the frame in transmission is discarded, the link becomes STALLED, a partial frame is
discarded uncounted, and the teardown is done. A partial frame that lacks only its second CRC byte is still found by that byte
where the two fall together (R170). -/
def stallPort (p : Port) (s : State) : State :=
  let rx := rxOf s p
  let s := endTx p false s
  let s := s.setLink p { s.link p with state := .stalled }
  teardown p .absent (setRx p rx.stalled (discardPartial p s))

/-- The expiry of the stall timer of the link of `p`, where it is reached (R168). -/
def stallEvent (p : Port) (s : State) : State :=
  if (s.link p).stall = some s.time then settle (stallPort p s) else s

/-- STALL. -/
def execStall (p : Port) (s : State) : Result := .next (stallEvent p s)

end Sys2Proof.Machine
end

