-- ==== Sys2Proof/Machine/TrafficFamily.lean ====
section
/-! DEFINITION. Commands of the channel engine and the exchange table: REQUEST, POST, REPLY, EXTEND, CANCEL (R24 to R33, R50 to
R55, R60), and DRAW_WINDOW and DRAW_PIXELS of the display filter (R124 to R127). -/

namespace Sys2Proof.Machine

/-! ## Admission -/

/-- What the admission checks decide. -/
inductive Admission where
  | accept (c : Chn) (r : ChannelRecord)
  | refuse (st : Status) (why : Reason)
  | budget (owner : Port)
  deriving DecidableEq, Repr

/-- Step 3 of R24 for a request, or of R27 for a post: the record, where the message is allowed on the channel it names. -/
def step3 (s : State) (p : Port) (m : Message) (isPost : Bool) : Option (Chn × ChannelRecord) :=
  match chnOf m.chan.toNat with
  | some c =>
    match recordOf s c with
    | some r =>
      if r.owner = p ∧ r.types.allow isPost = true ∧ r.kinds.getLsbD m.kind.val = true
          ∧ m.payload.length ≤ r.maxSize then some (c, r)
      else none
    | none => none
  | none => none

/-- Step 9 fails: the channel is metered and its credit is below the cost (R30, R33). -/
def overBudget (s : State) (c : Chn) (r : ChannelRecord) (len : Nat) : Bool :=
  r.creditBase != 0 && decide ((s.chan c).credit < cost len)

/-- Steps 3 to 9 of R24, in order; `isPost` leaves out step 8 (R27). A requester below its quota finds a free entry (R24), so
the last clause of step 8 is met in no state that a run reaches. -/
def admission (s : State) (p : Port) (m : Message) (isPost : Bool) : Admission :=
  match step3 s p m isPost with
  | none => .refuse .illegal .illegal
  | some (c, r) =>
    if (s.chan c).bar then .refuse .barred .barred
    else if effectiveHold s c then .refuse .busy .busy
    else if (s.link r.peer).state ≠ .up then .refuse .absent .absent
    else if r.maxOutstanding ≤ (s.chan c).outstanding ∨ fwdCapacity ≤ (s.chan c).fwd.length then .refuse .busy .busy
    else if isPost = false ∧ (exchangeQuota p ≤ heldBy s p ∨ lowestFree s = none) then .refuse .nospace .nospace
    else if overBudget s c r m.payload.length then .budget r.owner
    else .accept c r

/-- The credit of a metered channel after the admission of a message of `len` payload bytes: it falls by the cost (R26, R30). Where the
refill of the present millisecond has been taken before the admission, that refill overwrites the debit, so that in either order C equals
B after both (R31). The worked case of credit says otherwise: DESIGN CHOICE, log entry 19. -/
def creditLeft (ch : Chan) (now : Time) (r : ChannelRecord) (len : Nat) : Nat :=
  if ch.lastRefill = some now then r.creditBase else ch.credit - cost len

/-- The debit of an admission: an unmetered channel has none (R33). -/
def debit (c : Chn) (r : ChannelRecord) (len : Nat) (s : State) : State :=
  if r.creditBase = 0 then s else s.setChan c { s.chan c with credit := creditLeft (s.chan c) s.time r len }

/-- A new exchange entry (R43, R44). -/
def newEntry (s : State) (e : EntryIx) (p : Port) (c : Chn) (r : ChannelRecord) (m : Message) (n : Nat) : Entry :=
  { gen := ((s.entry e).gen + 1) % 8, st := .queued, chan := c, requester := p, tag := some m.second,
    responder := r.peer, kind := m.kind, attempt := 1, fwdOnce := false, deadline := none, extCount := 0,
    snap := snapshotOf r, req := some { payload := m.payload, blocks := n }, status := none, withdraw := false }

/-- A request is admitted (R26): `n` is the number of its blocks. -/
def admitRequest (p : Port) (c : Chn) (r : ChannelRecord) (m : Message) (n : Nat) (s : State) : State :=
  match lowestFree s with
  | some e =>
    let s := debit c r m.payload.length (s.setEntry e (newEntry s e p c r m n))
    let ch := s.chan c
    s.setChan c { ch with outstanding := ch.outstanding + 1, fwd := ch.fwd ++ [.request e] }
  | none => s

/-- A post is admitted (R27). -/
def admitPost (p : Port) (c : Chn) (r : ChannelRecord) (m : Message) (n : Nat) (s : State) : State :=
  let s := debit c r m.payload.length s
  let ch := s.chan c
  s.setChan c
    { ch with
      fwd := ch.fwd ++ [.post { sender := p, peer := r.peer, label := m.second, kind := m.kind, payload := m.payload,
                                blocks := n }] }

/-- The REQUEST of `n` blocks and body `body` from `p` is put through the nine checks (R24 to R26). -/
def takeRequest (p : Port) (n : Nat) (body : List Byte) (s : State) : State :=
  match readMessage body with
  | none => verdict p n .malformed .request (idsOf 2 body) s
  | some m =>
    if (entryOfTag s p m.second).isSome then verdict p n .duplicateTag .request (idsOf 2 body) s
    else
      match admission s p m false with
      | .accept c r => admitRequest p c r m n s
      | .refuse st _ => answer p n (.refusal m.chan m.second m.kind st) s
      | .budget owner => latch owner .creditRefused (answer p n (.refusal m.chan m.second m.kind .budget) s)

/-- REQUEST. -/
def execRequest (p : Port) (b : Byte) (s : State) : Result := .next (typedFrame .request p b (takeRequest p) s)

/-- The POST of `n` blocks and body `body` from `p` is checked (R27). -/
def takePost (p : Port) (n : Nat) (body : List Byte) (s : State) : State :=
  match readMessage body with
  | none => verdict p n .malformed .post (idsOf 2 body) s
  | some m =>
    match admission s p m true with
    | .accept c r => admitPost p c r m n s
    | .refuse _ why => verdict p n why .post (idsOf 2 body) s
    | .budget owner => latch owner .creditRefused (verdict p n .budget .post (idsOf 2 body) s)

/-- POST. -/
def execPost (p : Port) (b : Byte) (s : State) : Result := .next (typedFrame .post p b (takePost p) s)

/-! ## Replies, extension, cancellation -/

/-- The entry a REPLY or EXTEND from `y` names by xid, generation, channel and responder (R50), whatever its state. -/
def namedEntry (s : State) (y : Port) (chan xid : Byte) : Option EntryIx :=
  match entryOf (xid.toNat % 32) with
  | some e =>
    if live s e ∧ (s.entry e).gen = xid.toNat / 32 ∧ chnByte (s.entry e).chan = chan ∧ (s.entry e).responder = y then
      some e
    else none
  | none => none

/-- The MaxSize that measures a reply (R4): that of the number in the active area, or 1024 where it is absent. -/
def replyLimit (s : State) (c : Chn) : Nat :=
  match recordOf s c with
  | some r => r.maxSize
  | none => maxPayload

/-- A REPLY ends the exchange `e` DELIVERED (R52). -/
def deliverReply (e : EntryIx) (m : ReplyBody) (n : Nat) (s : State) : State :=
  let s := dropRequest e (enterReplying e .delivered (leaveRetries e s))
  autoHoldReply e (joinReturn e (some { result := m.result, payload := m.payload, blocks := n }) s)

/-- The REPLY of `n` blocks and body `body` from `y` (R50 to R52). -/
def takeReply (y : Port) (n : Nat) (body : List Byte) (s : State) : State :=
  match readReply body with
  | none => verdict y n .malformed .reply (idsOf 2 body) s
  | some m =>
    match namedEntry s y m.chan m.xid with
    | none => verdict y n .stale .reply (idsOf 2 body) s
    | some e =>
      if (s.entry e).st = .forwarded ∨ waitingRetry s e then
        if replyLimit s (s.entry e).chan < m.payload.length then verdict y n .oversize .reply (idsOf 2 body) s
        else deliverReply e m n s
      else verdict y n .stale .reply (idsOf 2 body) s

/-- REPLY. -/
def execReply (p : Port) (b : Byte) (s : State) : Result := .next (typedFrame .reply p b (takeReply p) s)

/-- An EXTEND on a FORWARDED entry (R55). -/
def extendEntry (e : EntryIx) (s : State) : State :=
  let x := s.entry e
  if x.extCount < x.snap.maxExtends then
    let u := after s.time x.snap.extendStep
    let dl := match x.deadline with
      | some d => if later u d then some u else some d
      | none => none
    s.setEntry e { x with extCount := x.extCount + 1, deadline := dl }
  else s

/-- The EXTEND of `n` blocks and body `body` from `y` (R55). -/
def takeExtend (y : Port) (n : Nat) (body : List Byte) (s : State) : State :=
  match readExtend body with
  | none => verdict y n .malformed .extend (idsOf 2 body) s
  | some (chan, xid) =>
    match namedEntry s y chan xid with
    | none => verdict y n .stale .extend (idsOf 2 body) s
    | some e =>
      if (s.entry e).st = .forwarded then extendEntry e (release y n s)
      else if waitingRetry s e then release y n s
      else verdict y n .stale .extend (idsOf 2 body) s

/-- EXTEND. -/
def execExtend (p : Port) (b : Byte) (s : State) : Result := .next (typedFrame .extend p b (takeExtend p) s)

/-- The CANCEL of `n` blocks and body `body` from `p` (R60). -/
def takeCancel (p : Port) (n : Nat) (body : List Byte) (s : State) : State :=
  match readCancel body with
  | none => verdict p n .malformed .cancel (idsOf 1 body) s
  | some t =>
    match entryOfTag s p t with
    | none => verdict p n .notFound .cancel (idsOf 1 body) s
    | some e =>
      if (s.entry e).st = .replying then verdict p n .notFound .cancel (idsOf 1 body) s
      else endExchange e .cancelled (leaveRetries e (leaveForward e (release p n s)))

/-- CANCEL. -/
def execCancel (p : Port) (b : Byte) (s : State) : Result := .next (typedFrame .cancel p b (takeCancel p) s)

/-! ## Draw frames -/

/-- A draw frame that has passed the checks on its body joins the tail of the draw queue, or is answered FULL (R124). -/
def joinDraw (p : Port) (x : Screen) (n : Nat) (ty : FrameType) (f : DrawFrame) (s : State) : State :=
  if drawCapacity ≤ (s.draw x).queue.length then verdict p n .full ty [] s
  else s.setDraw x { s.draw x with queue := (s.draw x).queue ++ [f] }

/-- The DRAW_WINDOW of `n` blocks and body `body` from `p` (R124, R125). -/
def takeDrawWindow (p : Port) (n : Nat) (body : List Byte) (s : State) : State :=
  match screenOf p with
  | none => verdict p n .notPermitted .drawWindow [] s
  | some x =>
    match readWindow body with
    | none => verdict p n .malformed .drawWindow [] s
    | some w =>
      if w.rect.inverted then verdict p n .badWindow .drawWindow [] s
      else joinDraw p x n .drawWindow (.window w n) s

/-- DRAW_WINDOW. -/
def execDrawWindow (p : Port) (b : Byte) (s : State) : Result :=
  .next (typedFrame .drawWindow p b (takeDrawWindow p) s)

/-- The DRAW_PIXELS of `n` blocks and body `body` from `p` (R124, R126). -/
def takeDrawPixels (p : Port) (n : Nat) (body : List Byte) (s : State) : State :=
  match screenOf p with
  | none => verdict p n .notPermitted .drawPixels [] s
  | some x =>
    match readPixels body with
    | none => verdict p n .malformed .drawPixels [] s
    | some px => joinDraw p x n .drawPixels (.pixels px n) s

/-- DRAW_PIXELS. -/
def execDrawPixels (p : Port) (b : Byte) (s : State) : Result :=
  .next (typedFrame .drawPixels p b (takeDrawPixels p) s)

end Sys2Proof.Machine
end

