-- ==== Sys2Proof/Machine/ByteFamily.lean ====
section
/-! DEFINITION. RECEIVE_ASSEMBLY_BYTE (R154, R158, R159): a byte arrives on a domain link. A byte that belongs to another row's
step is taken as that step, so that no byte that arrives is lost (log entry 5). -/

namespace Sys2Proof.Machine

/-- The step of a good CONTROL, by its body (R171, R173). A CONTROL whose body was not stored is handed on by none of them. -/
def execControl (p : Port) (b : Byte) (body : List Byte) (s : State) : Result :=
  if body.length < 2 then execControlMalformed p b s
  else
    match ctlOf (byteAt body 0) with
    | none => execUnknownRequest p b s
    | some .queryLink => execQueryLink p b s
    | some .queryChannel => execQueryChannel p b s
    | some .querySession => execQuerySession p b s
    | some .queryNotices => execQueryNotices p b s
    | some .setNoticeMask => execSetNoticeMask p b s
    | some .hold => execHold p b s
    | some .release => execRelease p b s
    | some .setBar => execSetBar p b s
    | some .clearBar => execClearBar p b s
    | some .writeChannel => execWriteChannel p b s
    | some .removeChannel => execRemoveChannel p b s
    | some .writeSettings => execWriteSettings p b s
    | some .copyArea => execCopyArea p b s
    | some .activate => execActivate p b s
    | some .fullClear => execFullClear p b s
    | some .openSession => execOpenSession p b s
    | some .closeSession => execCloseSession p b s
    | some .touchRestart => execTouchRestart p b s

/-- The step of a good frame, by its type (R157). -/
def execGood (p : Port) (b : Byte) (f : RxFrame) (s : State) : Result :=
  match f.ty with
  | .hello => execHello p b s
  | .request => execRequest p b s
  | .post => execPost p b s
  | .reply => execReply p b s
  | .extend => execExtend p b s
  | .cancel => execCancel p b s
  | .control => execControl p b f.body s
  | .drawWindow => execDrawWindow p b s
  | .drawPixels => execDrawPixels p b s

/-- RECEIVE_ASSEMBLY_BYTE. -/
def execReceiveAssemblyByte (p : Port) (b : Byte) (s : State) : Result :=
  match classify (rxOf s p) b with
  | .assembly => .next (byteEvent p (fun s => setRx p (assembleNext s.time (rxOf s p) b) s) s)
  | .unknownType => execUnknownTypeDiscard p b s
  | .lengthOverrun _ _ => execLengthOverrunDiscard p b s
  | .header _ _ => execFrameHeader p b s
  | .crcMismatch _ => execCrcMismatch p b s
  | .good f => execGood p b f s

end Sys2Proof.Machine
end

