-- ==== Sys2Proof/Machine/TimerFamily.lean ====
section
/-! DEFINITION. Commands of the time base and its timers (R22, R31, R34, R35, R57, R111), of the panel link (R137) and of the
touch link (R142, R143). A timed event takes place at the millisecond its time is reached (R23); in any other state its
command leaves the state as it is (log entry 2). -/

namespace Sys2Proof.Machine

/-- The gap wait of channel `c` ends at this moment (R34): the arbiter of its peer considers it. -/
def gapEvent (c : Chn) (s : State) : State :=
  match recordOf s c, (s.chan c).lastForward with
  | some r, some t => if s.time = after t r.gap then settle s else s
  | _, _ => s

/-- GAP_WAIT_END. -/
def execGapWaitEnd (c : Nat) (s : State) : Result :=
  match chnOf c with
  | some c => .next (gapEvent c s)
  | none => .next s

/-- The last forward time of channel `c` becomes absent at last forward time + 255 (R35). -/
def lastForwardEvent (c : Chn) (s : State) : State :=
  match (s.chan c).lastForward with
  | some t =>
    if s.time = after t lastForwardLife then settle (s.setChan c { s.chan c with lastForward := none }) else s
  | none => s

/-- LAST_FORWARD_TIME_EXPIRY. -/
def execLastForwardTimeExpiry (c : Nat) (s : State) : Result :=
  match chnOf c with
  | some c => .next (lastForwardEvent c s)
  | none => .next s

/-- The refill timer of channel `c` expires: its credit becomes CreditBase, the next expiry is one period on, and the
millisecond is remembered for the admissions that it may still see (R31; log entry 19). -/
def refillEvent (c : Chn) (s : State) : State :=
  match recordOf s c, (s.chan c).refillAt with
  | some r, some t =>
    if s.time = t then
      settle (s.setChan c
        { s.chan c with credit := r.creditBase, refillAt := some (after t (10 * r.refillPeriod)), lastRefill := some t })
    else s
  | _, _ => s

/-- REFILL. -/
def execRefill (c : Nat) (s : State) : Result :=
  match chnOf c with
  | some c => .next (refillEvent c s)
  | none => .next s

/-- The deadline of the FORWARDED entry `e` is reached (R57, R58). -/
def deadlineReached (e : EntryIx) (s : State) : State :=
  let x := s.entry e
  let s := s.setEntry e { x with deadline := none }
  if x.snap.retries < x.attempt then barOnTimeout e (endExchange e .timeout s)
  else if !requestAllowed s (recordOf s x.chan) e then endExchange e .revoked s
  else if (s.chan x.chan).bar then endExchange e .barred s
  else
    let s := s.setEntry e { s.entry e with st := .queued, attempt := x.attempt + 1 }
    s.setChan x.chan { s.chan x.chan with retries := (s.chan x.chan).retries ++ [e] }

/-- The deadline event of entry `e`, where it is reached at this moment (R54). -/
def deadlineEvent (e : EntryIx) (s : State) : State :=
  if (s.entry e).st = .forwarded ∧ (s.entry e).deadline = some s.time then settle (deadlineReached e s) else s

/-- DEADLINE. -/
def execDeadline (e : Nat) (s : State) : Result :=
  match entryOf e with
  | some e => .next (deadlineEvent e s)
  | none => .next s

/-- The expiry of the session limit in ACTIVE (R111). -/
def limitReached (s : State) : State := latch .pd .sessionExpired (enterClosing (.blank 0#16) s)

/-- The session limit event, where the expiry is reached at this moment (R111). -/
def limitEvent (s : State) : State :=
  if s.session.state = .active ∧ s.session.limitAt = some s.time then settle (limitReached s) else s

/-- SESSION_LIMIT_EXPIRY. -/
def execSessionLimitExpiry (s : State) : Result := .next (limitEvent s)

/-- RUN_COMPLETE (R137). -/
def execRunComplete (s : State) : Result :=
  match s.run with
  | some r => .next (settle (runCompleted r s))
  | none => .next s

/-- ATTENTION_ASSERT: in IDLE a report read begins (R142); in FAULT the input is disregarded (R144), and during a read it does
not affect the read. -/
def execAttentionAssert (s : State) : Result :=
  .next (s.setTouch
    { s.touch with attention := true, link := if s.touch.link = .idle then .reading else s.touch.link })

/-- ATTENTION_RELEASE (R142). -/
def execAttentionRelease (s : State) : Result := .next (s.setTouch { s.touch with attention := false })

/-- TOUCH_READ_NACK: the read in progress fails (R143, R144). -/
def execTouchReadNack (s : State) : Result :=
  if s.touch.link = .reading then .next (settle (readFailed s)) else .next s

/-- TOUCH_READ_COMPLETE: the 11 report bytes are checked, and a good read derives its events (R142 to R147). -/
def execTouchReadComplete (report : List Byte) (s : State) : Result :=
  if s.touch.link = .reading ∧ report.length = 11 then
    if goodReport report then .next (settle (readGood report s)) else .next (settle (readFailed s))
  else .next s

/-- The events due at this moment that no command has taken are taken before the moment passes (R23), in a fixed order (log
entry 4): inter-byte timeouts, stalls, refills, last forward times, deadlines, the session limit, and the grants
that the end of a gap wait makes. -/
def takeDue (s : State) : State :=
  let s := allPorts.foldl (fun s p => interByteEvent p s) s
  let s := allPorts.foldl (fun s p => stallEvent p s) s
  let s := allChns.foldl (fun s c => refillEvent c s) s
  let s := allChns.foldl (fun s c => lastForwardEvent c s) s
  let s := allEntries.foldl (fun s e => deadlineEvent e s) s
  let s := limitEvent s
  allChns.foldl (fun s c => gapEvent c s) s

/-- The millisecond of a stall is over: a frame that lacked its second CRC byte then is gone (R169, R170). -/
def settleRx (s : State) : State := allPorts.foldl (fun s p => setRx p (rxOf s p).settled s) s

/-- TIME_BASE_TICK: the time base advances by 1, wrapping to 0 (R22). -/
def execTimeBaseTick (s : State) : Result :=
  let s := settleRx (takeDue s)
  .next (s.setTime (s.time + 1#32))

end Sys2Proof.Machine
end

