-- ==== Sys2Proof/Machine/Dispatch.lean ====
section
/-! DEFINITION. The dispatch: one arm for each command, each a direct call of its meaning. -/

namespace Sys2Proof.Machine

-- The effect of a command on everything but the queue of waiting commands.
def exec (i : Instr) (s : State) : Host.Outcome State Fault Refusal :=
  match i with
  | .powerOnReset => Sys2Proof.Machine.execPowerOnReset s
  | .frameHeader p b => Sys2Proof.Machine.execFrameHeader p b s
  | .unknownTypeDiscard p b => Sys2Proof.Machine.execUnknownTypeDiscard p b s
  | .lengthOverrunDiscard p b => Sys2Proof.Machine.execLengthOverrunDiscard p b s
  | .crcMismatch p b => Sys2Proof.Machine.execCrcMismatch p b s
  | .interByteTimeout p => Sys2Proof.Machine.execInterByteTimeout p s
  | .framingError => Sys2Proof.Machine.execFramingError s
  | .ctsChange asserted lastStarted => Sys2Proof.Machine.execCtsChange asserted lastStarted s
  | .hello p b => Sys2Proof.Machine.execHello p b s
  | .request p b => Sys2Proof.Machine.execRequest p b s
  | .post p b => Sys2Proof.Machine.execPost p b s
  | .reply p b => Sys2Proof.Machine.execReply p b s
  | .extend p b => Sys2Proof.Machine.execExtend p b s
  | .cancel p b => Sys2Proof.Machine.execCancel p b s
  | .drawWindow p b => Sys2Proof.Machine.execDrawWindow p b s
  | .drawPixels p b => Sys2Proof.Machine.execDrawPixels p b s
  | .unknownRequest p b => Sys2Proof.Machine.execUnknownRequest p b s
  | .queryLink p b => Sys2Proof.Machine.execQueryLink p b s
  | .queryChannel p b => Sys2Proof.Machine.execQueryChannel p b s
  | .querySession p b => Sys2Proof.Machine.execQuerySession p b s
  | .queryNotices p b => Sys2Proof.Machine.execQueryNotices p b s
  | .setNoticeMask p b => Sys2Proof.Machine.execSetNoticeMask p b s
  | .hold p b => Sys2Proof.Machine.execHold p b s
  | .release p b => Sys2Proof.Machine.execRelease p b s
  | .setBar p b => Sys2Proof.Machine.execSetBar p b s
  | .clearBar p b => Sys2Proof.Machine.execClearBar p b s
  | .writeChannel p b => Sys2Proof.Machine.execWriteChannel p b s
  | .removeChannel p b => Sys2Proof.Machine.execRemoveChannel p b s
  | .writeSettings p b => Sys2Proof.Machine.execWriteSettings p b s
  | .copyArea p b => Sys2Proof.Machine.execCopyArea p b s
  | .activate p b => Sys2Proof.Machine.execActivate p b s
  | .fullClear p b => Sys2Proof.Machine.execFullClear p b s
  | .openSession p b => Sys2Proof.Machine.execOpenSession p b s
  | .closeSession p b => Sys2Proof.Machine.execCloseSession p b s
  | .touchRestart p b => Sys2Proof.Machine.execTouchRestart p b s
  | .transmissionComplete p => Sys2Proof.Machine.execTransmissionComplete p s
  | .gapWaitEnd c => Sys2Proof.Machine.execGapWaitEnd c s
  | .lastForwardTimeExpiry c => Sys2Proof.Machine.execLastForwardTimeExpiry c s
  | .refill c => Sys2Proof.Machine.execRefill c s
  | .deadline e => Sys2Proof.Machine.execDeadline e s
  | .stall p => Sys2Proof.Machine.execStall p s
  | .sessionLimitExpiry => Sys2Proof.Machine.execSessionLimitExpiry s
  | .runComplete => Sys2Proof.Machine.execRunComplete s
  | .attentionAssert => Sys2Proof.Machine.execAttentionAssert s
  | .touchReadNack => Sys2Proof.Machine.execTouchReadNack s
  | .touchReadComplete report => Sys2Proof.Machine.execTouchReadComplete report s
  | .timeBaseTick => Sys2Proof.Machine.execTimeBaseTick s
  | .attentionRelease => Sys2Proof.Machine.execAttentionRelease s
  | .controlMalformed p b => Sys2Proof.Machine.execControlMalformed p b s
  | .receiveAssemblyByte p b => Sys2Proof.Machine.execReceiveAssemblyByte p b s

end Sys2Proof.Machine
end

