-- ==== Sys2Proof/Safety.lean ====
section
/-! DEFINITION. What a sound state of the part is, block by block, in the terms the statements use: the invariants of the
session, the message buffer, the queues, the credit, the panel, the exchange table, the notice unit, the policy areas and
the display filter. Each is a property of one state; every step keeps each of them (Certificates). After them, the words
the statements use for the arrival of a frame and for its answers. -/

namespace Sys2Proof.Safety

open Sys2Proof Sys2Proof.Machine

/-! ## The session controller (R104, R105, R107, R108, R110, R115) -/

/-- A rectangle of the panel that is not inverted (R105, R123). -/
structure RectOk (r : Rect) : Prop where
  columns : r.x0 ≤ r.x1
  right : r.x1 ≤ 319
  rows : r.y0 ≤ r.y1
  bottom : r.y1 ≤ 239

/-- A run of AD is in progress on the panel link. -/
def AdRun (s : State) : Prop := ∃ r, s.run = some r ∧ r.source = .frame .ad

/-- A session record fits the state `st` of the session (R105). -/
structure RecordOk (st : SessState) (r : SessRecord) : Prop where
  rect : RectOk r.rect
  limitLow : 1 ≤ r.limit
  limitHigh : r.limit ≤ 600
  start : st = .opening → r.start = none
  active : st = .active → r.start.isSome = true
  closeReq : st ≠ .opening → r.closeReq = none
  fill : r.fill.isSome = true ↔ st = .closing
  fillColour : r.fillColour.isSome = true ↔ st = .closing
  rows : ∀ f, r.fill = some f → f.last = r.rect.y1 ∧ r.rect.y0 ≤ f.next ∧ f.next ≤ f.last + 1

/-- The session controller is consistent: SECURE_IND is on exactly in ACTIVE (R110), a record is present exactly out of IDLE
(R105), the limit timer runs exactly in ACTIVE (R111), OPENING waits for an AD run (R107), CLOSING has a row to fill or its
last fill run in progress (R115), and a pending switch is present only out of IDLE and never names the active area (R93, R94). -/
structure SessionOk (s : State) : Prop where
  secureInd : s.session.secureInd = true ↔ s.session.state = .active
  record : s.session.record.isSome = true ↔ s.session.state ≠ .idle
  timer : s.session.limitAt.isSome = true ↔ s.session.state = .active
  fields : ∀ r, s.session.record = some r → RecordOk s.session.state r
  opening : s.session.state = .opening → AdRun s
  lastFill : ∀ r f, s.session.record = some r → r.fill = some f → f.last < f.next →
    ∃ q, s.run = some q ∧ q.source = .fill
  pendingSwitch : ∀ i, s.policy.pendingSwitch = some i → s.session.state ≠ .idle ∧ i ≠ s.policy.active

/-! ## The message buffer and the link units (R37, R38, R154, R159, R168) -/

/-- No port has more blocks charged than its quota, no more than two reserve blocks are in use, and the error count has not
passed its top. A frame in transmission on an SPI link has a byte left to clock; the ready line is asserted, and the stall timer
runs, exactly while a frame is in transmission. -/
structure BufferOk (s : State) : Prop where
  charged : ∀ p, s.chargedTo p ≤ blockQuota p
  reserve : ∀ p, (s.link p).reserve ≤ reserveBlocks
  errors : ∀ p, (s.link p).errors ≤ errorLimit
  sending : ∀ p t, p ≠ .rd → (s.arb p).tx = some t → t.sent < t.body.length + 6
  ready : ∀ p, (s.link p).ready = (p != .rd && (s.arb p).tx.isSome)
  stall : ∀ p, (s.link p).stall.isSome = (s.arb p).tx.isSome

/-! ## Queues and the touch link (R17, R127, R143, R144, R149) -/

/-- No queue holds more than its capacity, and the failure count is 3 exactly in FAULT. -/
structure QueuesOk (s : State) : Prop where
  forward : ∀ c, (s.chan c).fwd.length ≤ fwdCapacity
  draw : ∀ x, (s.draw x).queue.length ≤ drawCapacity
  touch : ∀ x, (s.touchQueue x).length ≤ touchCapacity
  failures : s.touch.failures ≤ failureLimit
  fault : s.touch.failures = failureLimit ↔ s.touch.link = .fault

/-! ## Credit (R6, R30, R33) -/

/-- The credit of a number lies in 0..CreditBase of its record in force, and is 0 where the number is absent. -/
def CreditOk (s : State) : Prop :=
  ∀ c, (s.chan c).credit ≤ match recordOf s c with | some r => r.creditBase | none => 0

/-! ## The panel (R129) -/

/-- The position of pixel `k` of a run (R136). -/
def runPixel (r : Run) (k : Nat) : Nat × Nat :=
  match r.dir with
  | .row => (r.x + k, r.y)
  | .column => (r.x, r.y + k)

/-- While the session is ACTIVE or CLOSING, no pixel of an AD run in progress lies inside the protected rectangle. -/
def PanelOk (s : State) : Prop :=
  s.session.state = .active ∨ s.session.state = .closing →
    ∀ r, s.run = some r → r.source = .frame .ad →
      ∀ q, s.session.record = some q → ∀ k, k < r.pixels.length →
        q.rect.holds (runPixel r k).1 (runPixel r k).2 = false

/-! ## The exchange table (R7, R17, R19, R43 to R46, R66) -/

/-- The exchanges of channel number `c` whose reply has not left: live entries with a present tag (R7, R45). -/
def unanswered (s : State) (c : Chn) : Nat :=
  (allEntries.filter (fun e => live s e && (s.entry e).tag.isSome && (s.entry e).chan == c)).length

/-- The reply of `e` is in transmission to `p`, its exchange not dropped. -/
def Replying (s : State) (p : Port) (e : EntryIx) : Prop :=
  ∃ t h, (s.arb p).tx = some t ∧ t.source = .reply e h false

/-- The exchange table agrees with the queues of the channel engine: who waits where, each exchange in one place and in one
place only, a reply due to every exchange that has ended, the outstanding counts, and the quotas of the requesters. -/
structure ExchangesOk (s : State) : Prop where
  generation : ∀ e, (s.entry e).gen < 8
  quota : ∀ p, heldBy s p ≤ exchangeQuota p
  outstanding : ∀ c, (s.chan c).outstanding = unanswered s c
  retry : ∀ c e, e ∈ (s.chan c).retries →
    (s.entry e).st = .queued ∧ (s.entry e).fwdOnce = true ∧ (s.entry e).chan = c
  waiting : ∀ c e, FwdItem.request e ∈ (s.chan c).fwd →
    (s.entry e).st = .queued ∧ (s.entry e).fwdOnce = false ∧ (s.entry e).chan = c
  retriesOnce : ∀ c, (s.chan c).retries.Nodup
  waitingOnce : ∀ c, (requestsOf (s.chan c).fwd).Nodup
  queued : ∀ e, (s.entry e).st = .queued →
    if (s.entry e).fwdOnce then e ∈ (s.chan (s.entry e).chan).retries
    else FwdItem.request e ∈ (s.chan (s.entry e).chan).fwd
  forwarded : ∀ e, (s.entry e).st = .forwarded → (s.entry e).fwdOnce = true
  deadline : ∀ e, (s.entry e).deadline.isSome = true ↔ (s.entry e).st = .forwarded
  tagged : ∀ e, (s.entry e).st = .queued ∨ (s.entry e).st = .forwarded → (s.entry e).tag.isSome = true
  answered : ∀ e, (s.entry e).st = .replying → (s.entry e).tag = none → (s.entry e).withdraw = true
  returned : ∀ c i, i ∈ (s.chan c).ret →
    (s.entry i.entry).st = .replying ∧ (s.entry i.entry).tag.isSome = true ∧ (s.entry i.entry).chan = c
  due : ∀ e, (s.entry e).st = .replying → (s.entry e).tag.isSome = true →
    (∃ i, i ∈ (s.chan (s.entry e).chan).ret ∧ i.entry = e) ∨ Replying s (s.entry e).requester e
  returnedOnce : ∀ c, ((s.chan c).ret.map RetItem.entry).Nodup
  sending : ∀ p e, Replying s p e →
    (s.entry e).st = .replying ∧ (s.entry e).tag.isSome = true ∧ (s.entry e).requester = p ∧
      ∀ c i, i ∈ (s.chan c).ret → i.entry ≠ e

/-- The requester of a live exchange is never its responder: a record has Owner other than Peer (R2, R44). -/
def PortsDiffer (s : State) : Prop := ∀ e, live s e = true → (s.entry e).requester ≠ (s.entry e).responder

/-! ## The notice unit (R180, R182) -/

/-- NOTICE frames waiting in the internal part-frame queue of `p`. -/
def noticesWaiting (s : State) (p : Port) : Nat := ((s.arb p).iq.filter (fun f => f.what == .notice)).length

/-- A port has at most one NOTICE on its way, its NOTICE state says where, and mask and set hold the nine conditions only. -/
structure NoticesOk (s : State) : Prop where
  waiting : ∀ p, noticesWaiting s p = if (s.notice p).st = .waiting then 1 else 0
  sending : ∀ p, (s.notice p).st = .sending ↔ ∃ t, (s.arb p).tx = some t ∧ t.source = .notice
  mask : ∀ p, (s.notice p).mask &&& conditionPlaces = (s.notice p).mask
  set : ∀ p, (s.notice p).set &&& conditionPlaces = (s.notice p).set

/-! ## The policy areas (R2, R90) -/

/-- A stored record has every field in its range. -/
structure RecordInRange (r : ChannelRecord) : Prop where
  ports : r.owner ≠ r.peer
  maxSize : r.maxSize ≤ 1024
  creditBase : r.creditBase ≤ 4095
  refillPeriod : 1 ≤ r.refillPeriod ∧ r.refillPeriod ≤ 255
  gap : r.gap ≤ 255
  maxOutstanding : 1 ≤ r.maxOutstanding ∧ r.maxOutstanding ≤ 8
  responseLimit : 1 ≤ r.responseLimit ∧ r.responseLimit ≤ 65535
  extendStep : 1 ≤ r.extendStep ∧ r.extendStep ≤ 65535
  maxExtends : r.maxExtends ≤ 15
  retries : r.retries ≤ 2

/-- Every record and setting of an area is in its range. -/
structure AreaInRange (v : Area) : Prop where
  records : ∀ (c : Chn) r, v.recs.get c = some r → RecordInRange r
  stallLimit : ∀ p, 1 ≤ (v.settings.get p).stallLimit ∧ (v.settings.get p).stallLimit ≤ 255
  bannerRows : v.bannerRows ≤ 32

/-- Both areas are in range. -/
structure AreasOk (s : State) : Prop where
  a : AreaInRange s.policy.areaA
  b : AreaInRange s.policy.areaB

/-! ## The display filter (R123, R127, R128) -/

/-- The draw state of one source: a window of the panel, the cursor inside it, every queued window valid, and the next pixel
absent or a pixel of the frame at the head. -/
structure DrawOk (d : Draw) : Prop where
  window : RectOk d.window.rect
  cursor : d.window.rect.holds d.cx d.cy = true
  queued : ∀ w n, DrawFrame.window w n ∈ d.queue → RectOk w.rect
  next : ∀ k, d.next = some k → ∃ px n q, d.queue = .pixels px n :: q ∧ k < px.length

/-- The draw states of AD and PD. -/
def DrawsOk (s : State) : Prop := ∀ x, DrawOk (s.draw x)

/-! ## The order of candidates (R79, R80) -/

/-- The rank of a class: PAYMENT, RADIO, APP (R79). -/
def classRank : EgressClass → Nat
  | .payment => 0
  | .radio => 1
  | .app => 2

/-- The place of a number in the order of a class: its number under FIXED and where the pointer is absent, and its place after
the pointer in the cycle of 48 under ROTATING (R79, R80). -/
def placeOf (m : EgressMode) (ptr : Option Chn) (c : Chn) : Nat :=
  match m, ptr with
  | .rotating, some q => (c.val + 47 - q.val) % 48
  | .rotating, none => c.val
  | .fixed, _ => c.val

/-! ## The candidates of an egress arbiter (R23, R34, R75, R76, R80) -/

/-- The number `c` is an eligible forward candidate of `p` (R76): present with Peer `p`, with a waiting retry or a forward queue that
is not empty, effective HOLD and BAR clear, and the gap over, the time base being at or later than the last forward time + Gap (R8,
R12, R23, R34). -/
def Forwardable (s : State) (p : Port) (c : Chn) : Prop :=
  ∃ r, recordOf s c = some r ∧ r.peer = p ∧ ((s.chan c).retries ≠ [] ∨ (s.chan c).fwd ≠ []) ∧
    (s.chan c).ownHold = false ∧ ¬ (r.quietInSession = true ∧ s.session.state ≠ .idle) ∧ (s.chan c).bar = false ∧
    ∀ t, (s.chan c).lastForward = some t → (s.time - (t + BitVec.ofNat 32 r.gap)).toNat < 2 ^ 31

/-- The return queue of `c` has a head whose requester is `p` (R75). -/
def Replyable (s : State) (p : Port) (c : Chn) : Prop :=
  ∃ i rest, (s.chan c).ret = i :: rest ∧ (s.entry i.entry).requester = p

/-- The number `c` is the first of the eligible ones under the mode `m` with the pointers `ptrs` (R79, R80). -/
structure FirstOf (s : State) (m : EgressMode) (ptrs : Pointers) (Eligible : Chn → Prop) (c : Chn) : Prop where
  eligible : Eligible c
  first : ∀ d, Eligible d →
    classRank (classOfChn s c) ≤ classRank (classOfChn s d) ∧
      (classOfChn s c = classOfChn s d →
        placeOf m (ptrs.get (classOfChn s c)) c ≤ placeOf m (ptrs.get (classOfChn s c)) d)

/-- What the arbiter of `p` considers and takes at its second, third and fourth steps: the head of its touch queue, and the first of
the heads that name it and of the forwards to it, under the port's own mode, with the pointers of each step (R74, R75, R76, R80). -/
structure CandidatesOk (s : State) (p : Port) : Prop where
  touch : ∀ ev, touchHead s p = some ev ↔ ∃ x rest, screenOf p = some x ∧ s.touchQueue x = ev :: rest
  reply : ∀ c, pickReply s p = some c → FirstOf s (settingsOf s p).mode (s.arb p).ptr3 (Replyable s p) c
  noReply : pickReply s p = none ↔ ∀ c, ¬ Replyable s p c
  forward : ∀ c, pickForward s p = some c → FirstOf s (settingsOf s p).mode (s.arb p).ptr4 (Forwardable s p) c
  noForward : pickForward s p = none ↔ ∀ c, ¬ Forwardable s p c

/-! ## Formation of a run (R126 to R132) -/

/-- Where the cursor of `d` stands after `k` advances (R128). -/
def cursorAfter (d : Draw) (k : Nat) : Nat × Nat := (fun c : Nat × Nat => advance d.window c.1 c.2)^[k] (d.cx, d.cy)

/-- A position is the last of a line of the window (R128). -/
def EndsLine (w : Window) (q : Nat × Nat) : Prop :=
  match w.order with
  | .row => w.rect.x1 ≤ q.1
  | .column => w.rect.y1 ≤ q.2

/-- The formation for the source `x` does what R131 says of the frame at the head of the draw queue, and goes on with the frame behind
it as it would from the state that the head leaves. -/
structure Formation (s : State) (x : Screen) : Prop where
  /-- Nothing to draw: no run, and nothing is released. -/
  empty : (s.draw x).queue = [] →
    formFor s x = { draw := { s.draw x with next := none }, released := 0, run := none }
  /-- A window takes effect, the cursor goes to (x0, y0), and its blocks are released (R127). -/
  window : ∀ w n q, (s.draw x).queue = .window w n :: q →
    let f := formFor (s.setDraw x { queue := q, window := w, cx := w.rect.x0, cy := w.rect.y0, next := none }) x
    formFor s x = { f with released := n + f.released }
  /-- A frame whose remaining pixels are all masked is consumed with no run: the cursor passes over them, and its blocks are
  released (R131 step 2, R132). -/
  consumed : ∀ px n q, (s.draw x).queue = .pixels px n :: q →
    let d := s.draw x
    let start := d.next.getD 0
    let at' := cursorAfter d (px.length - start)
    (∀ k, start + k < px.length → maskFor s x (cursorAfter d k).1 (cursorAfter d k).2 = true) →
      let f := formFor (s.setDraw x { d with queue := q, cx := at'.1, cy := at'.2, next := none }) x
      formFor s x = { f with released := n + f.released }
  /-- After `j` masked pixels the run begins at the cursor and takes `m` pixels of the frame, as they stand and in order, each at the
  position of the cursor at that pixel. It stops after a line wrap, before a masked pixel or at the end of the frame; there the frame
  leaves the queue, its blocks to be released with the run, and otherwise its next pixel is the one after the run's last (R126, R131,
  R132, R136). -/
  formed : ∀ px n q j, (s.draw x).queue = .pixels px n :: q →
    let d := s.draw x
    let start := d.next.getD 0
    let masked (k : Nat) : Bool := maskFor s x (cursorAfter d k).1 (cursorAfter d k).2
    start + j < px.length → (∀ k, k < j → masked k = true) → masked j = false →
      ∃ m, 0 < m ∧ start + j + m ≤ px.length ∧ (∀ k, k < m → masked (j + k) = false) ∧
        (∀ k, k + 1 < m → ¬ EndsLine d.window (cursorAfter d (j + k))) ∧
        (EndsLine d.window (cursorAfter d (j + m - 1)) ∨ start + j + m = px.length ∨ masked (j + m) = true) ∧
        let whole := start + j + m = px.length
        let at' := cursorAfter d (j + m)
        let r : Run :=
          { source := .frame x, x := (cursorAfter d j).1, y := (cursorAfter d j).2, dir := d.window.order,
            pixels := (px.drop (start + j)).take m, last := if whole then some n else none }
        (∀ k, k < m → runPixel r k = cursorAfter d (j + k)) ∧
        formFor s x =
          { released := 0, run := some r,
            draw := { queue := if whole then q else (s.draw x).queue, window := d.window, cx := at'.1, cy := at'.2,
                      next := if whole then none else some (start + j + m) } }

/-! ## The layout of what the part sends (R163, R164) -/

/-- Every frame that the arbiter of `p` takes at its first three steps is laid out as R163 and R164 say, with the codes of their
tables; numbers are low byte first. -/
structure FramesLaidOut (s : State) (p : Port) : Prop where
  verdict : ∀ f why ty ids, f.what = .verdict why ty ids →
    partWire s p f =
      (0x86#8, [why.code, ty, BitVec.ofNat 8 ids.length, ids.getD 0 0#8, ids.getD 1 0#8], .part f.block)
  refusal : ∀ f c tag kind st, f.what = .refusal c tag kind st →
    partWire s p f = (0x84#8, [c, tag, BitVec.ofNat 8 (kind.val + 16 * st.code), 0#8], .part f.block)
  controlReply : ∀ f code tag st res, f.what = .controlReply code tag st res →
    partWire s p f = (0x87#8, code :: tag :: st.code :: res, .part f.block)
  helloReply : ∀ f ev errors, f.what = .helloReply ev errors →
    partWire s p f =
      (0x81#8, [0x48#8, 0x0C#8, 2#8, (match p with | .ad => 1#8 | .pd => 2#8 | .rd => 3#8), ev] ++ leNat errors, .part f.block)
  notice : ∀ f, f.what = .notice → partWire s p f = (0x88#8, leHalf (s.notice p).set, .notice)
  withdraw : ∀ f e, f.what = .withdraw e →
    partWire s p f =
      (0x85#8, [chnByte (s.entry e).chan, BitVec.ofNat 8 ((s.entry e).gen * 32 + e.val)], .withdraw e)
  touch : ∀ ev, touchBody ev =
    [(match ev.kind with | .down => 0#8 | .move => 1#8 | .up => 2#8), BitVec.ofNat 8 ev.slot.val] ++ leNat ev.px ++
      leNat ev.py ++
      [ev.time.extractLsb' 0 8, ev.time.extractLsb' 8 8, ev.time.extractLsb' 16 8, ev.time.extractLsb' 24 8]
  reply : ∀ c i tag st, (s.entry i.entry).tag = some tag → (s.entry i.entry).status = some st →
    let head : List Byte := [chnByte c, tag, BitVec.ofNat 8 ((s.entry i.entry).kind.val + 16 * st.code)]
    (∀ f, i.frame = some f → replyOut s c i = head ++ f.result :: f.payload) ∧
      (i.frame = none → replyOut s c i = head ++ [0#8])
  reasons :
    [Reason.malformed, .duplicateTag, .illegal, .barred, .busy, .absent, .budget, .nospace, .full, .badWindow, .notPermitted,
      .stale, .notFound, .oversize, .revoked].map Reason.code =
      [1#8, 2#8, 3#8, 4#8, 5#8, 6#8, 7#8, 8#8, 9#8, 10#8, 11#8, 12#8, 13#8, 14#8, 15#8]
  statuses :
    [Status.delivered, .illegal, .barred, .busy, .absent, .nospace, .budget, .timeout, .cancelled, .restarted,
      .revoked].map Status.code = [0, 1, 2, 3, 4, 5, 6, 7, 8, 9, 10]
  controlStatuses :
    [CtlStatus.done, .denied, .badarg, .busy, .inuse, .notOpen, .unknown].map CtlStatus.code =
      [0#8, 1#8, 2#8, 3#8, 4#8, 5#8, 6#8]
  lowFirst : ∀ n, leNat n = [BitVec.ofNat 8 n, BitVec.ofNat 8 (n / 256)]

/-! ## The codes and the layout of the answers to queries (R163, R174 to R177) -/

/-- The codes that control requests and their answers use, and the fields they are made of: numbers are low byte first (R163, R174,
R175, R176, R177). -/
structure AnswersLaidOut : Prop where
  ports : [Port.ad, .pd, .rd].map portCode = [1#8, 2#8, 3#8]
  portOf : ∀ b p, portOf b = some p ↔ b = portCode p
  areas : [AreaId.a, .b].map areaCode = [1#8, 2#8]
  areaOf : ∀ b i, areaOf b = some i ↔ b = areaCode i
  modes : [EgressMode.fixed, .rotating].map modeCode = [0#8, 1#8]
  modeOf : ∀ b m, modeOf b = some m ↔ b = modeCode m
  links : [LinkState.down, .up, .stalled].map LinkState.code = [0#8, 1#8, 2#8]
  sessions : [SessState.idle, .opening, .active, .closing].map SessState.code = [0#8, 1#8, 2#8, 3#8]
  touches : [TouchLink.idle, .reading, .fault].map TouchLink.code = [0#8, 1#8, 2#8]
  booleans : [false, true].map boolByte = [0#8, 1#8]
  counts : ∀ n, countByte n = BitVec.ofNat 8 n
  numbers : ∀ n, leNat n = [BitVec.ofNat 8 n, BitVec.ofNat 8 (n / 256)]
  halves : ∀ h, leHalf h = [h.extractLsb' 0 8, h.extractLsb' 8 8]
  times : ∀ t, leTime t = [t.extractLsb' 0 8, t.extractLsb' 8 8, t.extractLsb' 16 8, t.extractLsb' 24 8]
  flags : ∀ b0 b1 b2,
    flagByte b0 b1 b2 = BitVec.ofNat 8 ((if b0 then 1 else 0) + (if b1 then 2 else 0) + (if b2 then 4 else 0))
  record : ∀ r, recordBytes r =
    [(match r.owner with | .ad => 1#8 | .pd => 2#8 | .rd => 3#8), (match r.peer with | .ad => 1#8 | .pd => 2#8 | .rd => 3#8),
     (match r.cls with | .payment => 0#8 | .radio => 1#8 | .app => 2#8),
     (match r.types with | .requests => 0#8 | .posts => 1#8 | .both => 2#8),
     r.kinds.extractLsb' 0 8, r.kinds.extractLsb' 8 8,
     BitVec.ofNat 8 r.maxSize, BitVec.ofNat 8 (r.maxSize / 256),
     BitVec.ofNat 8 r.creditBase, BitVec.ofNat 8 (r.creditBase / 256),
     BitVec.ofNat 8 r.refillPeriod, BitVec.ofNat 8 r.gap, BitVec.ofNat 8 r.maxOutstanding,
     BitVec.ofNat 8 r.responseLimit, BitVec.ofNat 8 (r.responseLimit / 256),
     BitVec.ofNat 8 r.extendStep, BitVec.ofNat 8 (r.extendStep / 256),
     BitVec.ofNat 8 r.maxExtends, BitVec.ofNat 8 r.retries,
     BitVec.ofNat 8 ((if r.autoHold then 1 else 0) + (if r.barOnTimeout then 2 else 0) +
       (if r.quietInSession then 4 else 0))]
  rectangle : ∀ r, rectBytes r =
    [BitVec.ofNat 8 r.x0, BitVec.ofNat 8 (r.x0 / 256), BitVec.ofNat 8 r.x1, BitVec.ofNat 8 (r.x1 / 256),
     BitVec.ofNat 8 r.y0, BitVec.ofNat 8 (r.y0 / 256), BitVec.ofNat 8 r.y1, BitVec.ofNat 8 (r.y1 / 256)]
  noColour : colourBytes none = [0#8, 0#8, 0#8]
  colour : ∀ c, colourBytes (some c) = [1#8, c.extractLsb' 0 8, c.extractLsb' 8 8]
  noClose : closeBytes none = [0#8, 0#8, 0#8, 0#8]
  plainClose : closeBytes (some .plain) = [1#8, 0#8, 0#8, 0#8]
  blankClose : ∀ c, closeBytes (some (.blank c)) = [1#8, 1#8, c.extractLsb' 0 8, c.extractLsb' 8 8]
  areaRead : ∀ s, areaOfId s .a = s.policy.areaA ∧ areaOfId s .b = s.policy.areaB
  inForce : ∀ s c, recordOf s c = (areaOfId s s.policy.active).recs.get c
  settings : ∀ s p, settingsOf s p = (areaOfId s s.policy.active).settings.get p
  forced : ∀ s c, forcedHold s c = true ↔
    ∃ r, recordOf s c = some r ∧ r.quietInSession = true ∧ s.session.state ≠ .idle
  held : ∀ s p, heldBy s p =
    ((List.finRange 32).filter fun e => decide ((s.entry e).st ≠ .free ∧ (s.entry e).requester = p)).length

/-! ## Latching (R181, R182) -/

/-- The notice unit of a port after the conditions `ks` have been latched for it: they join the set; where one of them is selected and
newly pending, NONE becomes WAITING, and repeat becomes yes in SENDING (R181, R182). -/
def noticeAfter (n : Notice) (ks : Half) : Notice :=
  if ks &&& ~~~ n.set &&& n.mask = 0#16 then { n with set := n.set ||| ks }
  else
    match n.st with
    | .none => { n with set := n.set ||| ks, st := .waiting }
    | .waiting => { n with set := n.set ||| ks }
    | .sending => { n with set := n.set ||| ks, again := true }

/-- The NOTICE made by latching `ks`: one where a selected condition is newly pending in state NONE, else none (R182). -/
def noticeMade (n : Notice) (ks : Half) : List IFrame :=
  if ks &&& ~~~ n.set &&& n.mask ≠ 0#16 ∧ n.st = .none then [{ what := .notice, block := .pool }] else []

/-- From `s` to `u` exactly the conditions `ks p` have been latched for each port `p`, and a NOTICE so made stands among its part
frames. -/
structure Latched (s u : State) (ks : Port → Half) : Prop where
  notice : ∀ p, u.notice p = noticeAfter (s.notice p) (ks p)
  made : ∀ p, ∀ f ∈ noticeMade (s.notice p) (ks p), f ∈ (u.arb p).iq

/-! ## The return of the session to IDLE (R13, R99, R116) -/

/-- Forced HOLD turns off for a number of the active area whose own HOLD is clear and whose owner is `p`. -/
def releasedFor (s : State) (p : Port) : Bool :=
  allChns.any fun c =>
    match recordOf s c with
    | some r => r.owner == p && r.quietInSession && !(s.chan c).ownHold
    | none => false

/-- The conditions latched for `p` as the session leaves `s` for IDLE: SESSION_CHANGE, and RELEASED where a number of `p` is released. -/
def idleLatches (s : State) (p : Port) : Half := if releasedFor s p then 0x0021#16 else 0x0001#16

/-- The state `v` is `s` with the session back in IDLE, before a pending switch is taken: the session record is absent and the conditions
are latched, each port getting at most one NOTICE; nothing else changes. -/
structure BackToIdle (s v : State) : Prop where
  session : v.session = { s.session with state := .idle, record := none }
  notice : ∀ p, v.notice p = noticeAfter (s.notice p) (idleLatches s p)
  arb : ∀ p, v.arb p = { s.arb p with iq := (s.arb p).iq ++ noticeMade (s.notice p) (idleLatches s p) }
  rest : v.pending = s.pending ∧ v.time = s.time ∧ v.links = s.links ∧ v.radio = s.radio ∧ v.charged = s.charged ∧
    v.policy = s.policy ∧ v.chans = s.chans ∧ v.exch = s.exch ∧ v.draws = s.draws ∧ v.run = s.run ∧ v.touch = s.touch

/-- The state reached from `v`, back in IDLE: a pending switch is taken in the same event, with every effect of an area switch (R99). -/
def afterIdle (v : State) : State :=
  match v.policy.pendingSwitch with
  | some i => takeSwitch i v
  | none => v

/-! ## The session at a teardown of PD (R113, R114, R117) -/

/-- The session `v` is what a teardown of PD leaves of `u`: an open session is closed with blank and 0x0000. -/
structure ClosedForPd (u v : Session) : Prop where
  idle : u.state = .idle → v = u
  closing : u.state = .closing → v = u
  opening : ∀ r, u.state = .opening → u.record = some r →
    v = { u with record := some { r with closeReq := some (.blank 0#16) } }
  active : ∀ r, u.state = .active → u.record = some r →
    v = { state := .closing, secureInd := false, limitAt := none,
          record := some { r with closeReq := none, fill := some ⟨r.rect.y0, r.rect.y1⟩, fillColour := some 0#16 } }

/-- The conditions that a teardown of `p` latches for another port `q`: LINK_CHANGE for PD, and at a teardown of PD the SESSION_CHANGE of
a session that it had ACTIVE (R114, R117, R167). -/
def tornLatches (s : State) (p q : Port) : Half :=
  if p = .pd then (if s.session.state = .active then 0x0001#16 else 0#16) else if q = .pd then 0x0008#16 else 0#16

/-- What a teardown of `p` leaves in the notice unit (R167, R185): mask and set of `p` are emptied and repeat cleared, and LINK_CHANGE is
latched for PD. Where PD is torn down, its new set holds LINK_CHANGE and the SESSION_CHANGE of a session that it had ACTIVE; the other
ports get that too. -/
structure NoticesTorn (s u : State) (p : Port) : Prop where
  mask : (u.notice p).mask = 0#16
  again : (u.notice p).again = false
  set : (u.notice p).set =
    if p = .pd then (if s.session.state = .active then 0x0009#16 else 0x0008#16) else 0#16
  linkChange : hasCondition (u.notice .pd).set .linkChange = true
  sessionChange : p = .pd → s.session.state = .active → ∀ q, hasCondition (u.notice q).set .sessionChange = true
  others : ∀ q, q ≠ p → u.notice q = noticeAfter (s.notice q) (tornLatches s p q)

/-! ## What a teardown leaves (R20, R40, R63, R64, R67, R68, R81, R138, R152, R167, R169) -/

/-- The exchange `e` is QUEUED or FORWARDED, so that a teardown of its requester drops it and one of its responder ends it. -/
def isOpen (s : State) (e : EntryIx) : Bool := (s.entry e).st == .queued || (s.entry e).st == .forwarded

/-- Entry `e` is dropped at the teardown of its requester `p` with a WITHDRAW: it had been forwarded, and its responder is UP (R63). -/
def toldOfDrop (s : State) (p : Port) (e : EntryIx) : Bool :=
  (s.entry e).requester == p && isOpen s e && (s.entry e).fwdOnce && (s.link (s.entry e).responder).state == .up

/-- The frame in transmission on the link of `p` is the forward of `e`, with Retries 0, so that its discard by a stall releases the
request blocks (R40). -/
def lastForwardSent (s : State) (p : Port) (e : EntryIx) : Bool :=
  (s.entry e).snap.retries == 0 &&
    match (s.arb p).tx with
    | some t => t.source == .forward e none
    | none => false

/-- The request blocks of `e` at the teardown of `p` with the status `st`: after a stall, those that the discard of the frame in
transmission has released are gone. -/
def requestBlocks (s : State) (p : Port) (st : Status) (e : EntryIx) : Nat :=
  if st = .absent ∧ lastForwardSent s p e = true then 0
  else match (s.entry e).req with | some r => r.blocks | none => 0

/-- A forward of `e` is in transmission at the teardown of `p` and goes on, so that its end releases the request blocks (R40). A stall
of `p` has discarded the frame on that link. -/
def forwardStays (s : State) (p : Port) (st : Status) (e : EntryIx) : Bool :=
  forwardInFlight s e && !(st == .absent && (s.entry e).responder == p)

/-- The source of a frame in transmission on the link of `q`, once the teardown of `p` has ended or dropped its exchange (R40, R82):
a forward carries the request blocks still to be released, and a reply to `p` is one of a dropped exchange. -/
def sourceAfter (s : State) (p : Port) (st : Status) (q : Port) (src : TxSource) : TxSource :=
  match src with
  | .forward e none =>
    if isOpen s e = true ∧ ((s.entry e).requester = p ∨ (s.entry e).responder = p) ∧ (s.entry e).responder = q then
      .forward e (some { port := (s.entry e).requester, blocks := requestBlocks s p st e })
    else .forward e none
  | .reply e h false => .reply e h (q == p)
  | .reply e h true => .reply e h true
  | .forward e (some h) => .forward e (some h)
  | .part b => .part b
  | .notice => .notice
  | .withdraw e => .withdraw e
  | .touch => .touch
  | .post h => .post h

/-- The part frame answers a received frame, in a block of that frame or in a reserve block (R73). -/
def isAnswer : PartFrame → Bool
  | .verdict _ _ _ => true
  | .refusal _ _ _ _ => true
  | .controlReply _ _ _ _ => true
  | .helloReply _ _ => true
  | .notice => false
  | .withdraw _ => false

/-- Blocks charged to `q` that the teardown of `p` with the status `st` releases (R40): those of the answers waiting for `p`, of the
requests it drops and ends but for a forward that goes on, of the replies to `p`, of the posts from `p`, of the posts to `p` but the
first block of each, and of the draw frames of `p` but for one whose run is in progress. -/
def tornBlocks (s : State) (p : Port) (st : Status) (q : Port) : Nat :=
  (if q = p then ((s.arb p).iq.filter fun f => f.block == .charged && isAnswer f.what).length else 0) +
  ((allEntries.filter fun e =>
      isOpen s e && ((s.entry e).requester == p || (s.entry e).responder == p) && (s.entry e).requester == q &&
        !forwardStays s p st e).map (requestBlocks s p st)).sum +
  (allChns.map fun c => ((s.chan c).ret.map fun i =>
      if (s.entry i.entry).requester = p ∧ (s.entry i.entry).responder = q then
        (match i.frame with | some f => f.blocks | none => 0)
      else 0).sum).sum +
  (allChns.map fun c => ((postsOf (s.chan c).fwd).map fun m =>
      if m.sender = q then (if m.sender = p then m.blocks else if m.peer = p then m.blocks - 1 else 0) else 0).sum).sum +
  (match screenOf p with
   | some x =>
     if q = p then
       (((s.draw x).queue.drop (match s.run with
          | some r => if r.source = .frame x ∧ r.last = none then 1 else 0
          | none => 0)).map DrawFrame.blocks).sum
     else 0
   | none => 0)

/-- Blocks charged to `q` of the frame in transmission on the link of `p` that a stall releases as it discards the frame (R40, R83). -/
def sentBlocks (s : State) (p q : Port) : Nat :=
  let of (h : Held) : Nat := if h.port = q then h.blocks else 0
  match (s.arb p).tx with
  | none => 0
  | some t =>
    match t.source with
    | .part .charged => if q = p then 1 else 0
    | .part .reserve => 0
    | .part .pool => 0
    | .notice => 0
    | .withdraw _ => 0
    | .touch => 0
    | .reply _ (some h) _ => of h
    | .reply _ none _ => 0
    | .forward _ (some h) => of h
    | .forward e none =>
      if (s.entry e).snap.retries = 0 then
        of { port := (s.entry e).requester, blocks := match (s.entry e).req with | some r => r.blocks | none => 0 }
      else 0
    | .post h => of h

/-- A WITHDRAW of `e` is discarded at the teardown of `p`: one in its internal part-frame queue, or after a stall the one in
transmission on its link (R68, R83). -/
def WithdrawDiscarded (s : State) (p : Port) (st : Status) (e : EntryIx) : Prop :=
  (∃ f ∈ (s.arb p).iq, f.what = .withdraw e) ∨
    st = .absent ∧ ∃ t, (s.arb p).tx = some t ∧ t.source = .withdraw e

/-- A stall of `p` discards a forward of `e`. -/
def ForwardDiscarded (s : State) (p : Port) (st : Status) (e : EntryIx) : Prop :=
  st = .absent ∧ ∃ t, (s.arb p).tx = some t ∧ t.source = .forward e none

/-- From `s` to `u` the port `p` has been torn down, after a restart (`st` RESTARTED) or a stall (`st` ABSENT), but for the blocks. -/
structure TornDown (s u : State) (p : Port) (st : Status) : Prop where
  /-- An open exchange of `p` is dropped: it is free, or waits for the WITHDRAW made for it (R63, R67). -/
  dropped : ∀ e, (s.entry e).requester = p → isOpen s e = true →
    (toldOfDrop s p e = true →
      u.entry e = { s.entry e with st := .replying, tag := none, status := none, deadline := none, req := none,
                                   withdraw := true }) ∧
    (toldOfDrop s p e = false → (s.entry e).withdraw = false → u.entry e = Entry.freed (s.entry e).gen)
  /-- An exchange of `p` whose reply waits or is in transmission loses its reply; it is free, or waits for its WITHDRAW (R67). -/
  replyLost : ∀ e, (s.entry e).requester = p → (s.entry e).st = .replying → (s.entry e).tag.isSome = true →
    ((s.entry e).withdraw = false → u.entry e = Entry.freed (s.entry e).gen) ∧
    ((s.entry e).withdraw = true → ¬ WithdrawDiscarded s p st e → ¬ ForwardDiscarded s p st e →
      u.entry e = { s.entry e with tag := none, status := (u.entry e).status })
  /-- An open exchange toward `p` ends with the status `st`, and no WITHDRAW is made for it (R68). -/
  ended : ∀ e, (s.entry e).responder = p → isOpen s e = true →
    u.entry e = { s.entry e with st := .replying, status := some st, deadline := none, req := none,
                                 withdraw := (u.entry e).withdraw } ∧
      ((s.entry e).withdraw = false → (u.entry e).withdraw = false)
  /-- An exchange whose WITHDRAW to `p` is discarded is free, or has only its reply to wait for (R64, R68). -/
  withdrawLost : ∀ e, (s.entry e).requester ≠ p → (s.entry e).st = .replying → WithdrawDiscarded s p st e →
    ¬ ForwardDiscarded s p st e →
      ((s.entry e).tag = none → u.entry e = Entry.freed (s.entry e).gen) ∧
      ((s.entry e).tag.isSome = true → u.entry e = { s.entry e with withdraw := false })
  /-- Every other exchange stands (R67, R68). -/
  stands : ∀ e, ((s.entry e).requester = p → (s.entry e).st = .free ∨ (s.entry e).st = .replying ∧ (s.entry e).tag = none) →
    ((s.entry e).responder = p → isOpen s e = false) → ¬ WithdrawDiscarded s p st e → ¬ ForwardDiscarded s p st e →
      u.entry e = s.entry e
  /-- The channel runtimes (R20): the work of `p` and the work toward it has left the queues, each in its order; the replies of the
  exchanges ended have joined the return queues, retries first, then requests, then the FORWARDED ones in ascending index; the
  outstanding count has fallen by 1 for each exchange dropped. Own HOLD is set after a restart on the numbers `p` serves (R10). -/
  chan : ∀ c, u.chan c =
    { s.chan c with
      retries := (s.chan c).retries.filter fun e => (s.entry e).requester != p && (s.entry e).responder != p
      fwd := (s.chan c).fwd.filter fun i =>
        match i with
        | .request e => (s.entry e).requester != p && (s.entry e).responder != p
        | .post m => m.sender != p && m.peer != p
      ret := (s.chan c).ret.filter (fun i => (s.entry i.entry).requester != p) ++
        (((s.chan c).retries ++ requestsOf (s.chan c).fwd ++
            allEntries.filter fun e => (s.entry e).st == .forwarded && (s.entry e).chan == c).filter
          fun e => (s.entry e).responder == p).map fun e => { entry := e, frame := none }
      outstanding := (s.chan c).outstanding -
        (allEntries.filter fun e =>
          live s e && (s.entry e).tag.isSome && (s.entry e).chan == c && (s.entry e).requester == p).length
      ownHold := (s.chan c).ownHold ||
        (st == .restarted && match recordOf s c with | some r => r.peer == p | none => false) }
  /-- To every other port go the WITHDRAWs of the exchanges dropped, in ascending index, the verdicts ABSENT on the posts it had sent
  to `p`, in the order of the numbers and of each queue, and after them the NOTICE that the teardown makes for it, where it makes one
  (R20, R63, R67, R167, R182). -/
  sent : ∀ q, q ≠ p → (u.arb q).iq = (s.arb q).iq ++
      ((allEntries.filter fun e => toldOfDrop s p e && (s.entry e).responder == q).map
        fun e => { what := .withdraw e, block := .pool }) ++
      (allChns.flatMap fun c => ((postsOf (s.chan c).fwd).filter fun m => m.peer == p && m.sender == q).map
        fun m => { what := .verdict .absent 0x03#8 [chnByte c, m.label], block := .charged }) ++
      noticeMade (s.notice q) (tornLatches s p q)
  /-- The frames in transmission to the other ports go on, and no pointer moves (R81, R82). -/
  inTransmission : ∀ q, q ≠ p →
    (u.arb q).tx = (s.arb q).tx.map fun t => { t with source := sourceAfter s p st q t.source }
  pointers : ∀ q, (u.arb q).ptr3 = (s.arb q).ptr3 ∧ (u.arb q).ptr4 = (s.arb q).ptr4
  links : ∀ q, q ≠ p → u.link q = s.link q
  notices : NoticesTorn s u p
  /-- A NOTICE waiting is gone, and so is one in transmission at a stall (R182, R185). -/
  notice : ((∃ f ∈ (s.arb p).iq, f.what = .notice) ∨ st = .absent ∧ ∃ t, (s.arb p).tx = some t ∧ t.source = .notice) →
    (u.notice p).st = .none
  noticeStands :
    ¬ ((∃ f ∈ (s.arb p).iq, f.what = .notice) ∨ st = .absent ∧ ∃ t, (s.arb p).tx = some t ∧ t.source = .notice) →
      (u.notice p).st = (s.notice p).st
  /-- The draw state and the touch state of `p` (R138, R152), those of the other source standing. A touch event in transmission stays
  at a restart, and the contacts that `p` owned have no owner. -/
  draw : ∀ x, u.draw x =
    if screenOf p = some x then
      { queue := [], window := ⟨⟨0, 319, 0, 239⟩, .row⟩, cx := 0, cy := 0, next := none }
    else s.draw x
  touches : ∀ x, u.touchQueue x =
    if screenOf p = some x then
      (if st = .restarted ∧ (match (s.arb p).tx with | some t => t.source == .touch | none => false) = true then
        (s.touchQueue x).take 1 else [])
    else s.touchQueue x
  contacts : ∀ i, contactAt u i =
    (contactAt s i).map fun k => if k.owner.isSome = true ∧ k.owner = screenOf p then { k with owner := none } else k
  touchLink : u.touch.link = s.touch.link ∧ u.touch.failures = s.touch.failures ∧ u.touch.attention = s.touch.attention
  /-- The run in progress is not cut. Where its frame still stands at the head, it is made the last run of that frame (R138). -/
  run : ∀ r x f q, s.run = some r → r.source = .frame x → screenOf p = some x → r.last = none →
    (s.draw x).queue = f :: q → u.run = some { r with last := some f.blocks }
  runStands : (∀ r x, s.run = some r → r.source = .frame x → screenOf p = some x → r.last.isSome = true) → u.run = s.run
  policy : u.policy = s.policy
  session : p ≠ .pd → u.session = s.session
  closed : p = .pd → ClosedForPd s.session u.session
  time : u.time = s.time
  radio : u.radio = s.radio

/-! ## What the checks of messages, replies and extensions ask (R24, R27, R50) -/

/-- Step 3 of R24 or R27 passes for the message `m` of `p`: `c` is the number it names, present with the record `r`. -/
structure Allowed (s : State) (p : Port) (m : Message) (isPost : Bool) (c : Chn) (r : ChannelRecord) : Prop where
  number : m.chan.toNat = c.val + 1
  record : recordOf s c = some r
  owner : r.owner = p
  types : r.types.allow isPost = true
  kind : r.kinds.getLsbD m.kind.val = true
  size : m.payload.length ≤ r.maxSize

/-- The fields of a REPLY or EXTEND from `y` match the entry `e`: xid, generation, channel and responder (R50). -/
structure Names (s : State) (y : Port) (chan xid : Byte) (e : EntryIx) : Prop where
  index : xid.toNat % 32 = e.val
  live : (s.entry e).st ≠ .free
  generation : xid.toNat / 32 = (s.entry e).gen
  channel : chan.toNat = (s.entry e).chan.val + 1
  responder : (s.entry e).responder = y

/-- Entry `e` is FORWARDED or a waiting retry (R50, R59). -/
def Awaits (s : State) (e : EntryIx) : Prop :=
  (s.entry e).st = .forwarded ∨ (s.entry e).st = .queued ∧ (s.entry e).fwdOnce = true

/-- The request of `e` passes the re-forward check of R57: its number is present with the same owner and peer, and its record allows
the request's type, kind and payload. -/
def StillAllowed (s : State) (e : EntryIx) : Prop :=
  ∃ r, recordOf s (s.entry e).chan = some r ∧ r.owner = (s.entry e).requester ∧ r.peer = (s.entry e).responder ∧
    r.types ≠ .posts ∧ r.kinds.getLsbD (s.entry e).kind.val = true ∧ reqLength s e ≤ r.maxSize

/-- From `s` to `u` the exchange `e` has ended with the WITHDRAW that R63 and R64 ask for: exactly where the request had been forwarded
and the responder's link is UP, one is outstanding and stands among the responder's part frames. -/
def Withdrawn (s u : State) (e : EntryIx) : Prop :=
  let told := (s.entry e).fwdOnce = true ∧ (s.link (s.entry e).responder).state = .up
  (told → (u.entry e).withdraw = true ∧
    { what := .withdraw e, block := .pool } ∈ (u.arb (s.entry e).responder).iq) ∧
  (¬ told → (u.entry e).withdraw = (s.entry e).withdraw)

/-! ## What an OPEN_SESSION and a CLOSE_SESSION ask (R106, R112) -/

/-- The record an OPEN_SESSION with the arguments `args` stores (R106, R107): the rectangle clamped to the panel, the limit brought into
1..600. -/
def openRecord (args : List Byte) : SessRecord :=
  { rect := ⟨min (natAt args 0) 319, min (natAt args 2) 319, min (natAt args 4) 239, min (natAt args 6) 239⟩
    capture := byteAt args 8 != 0#8
    limit := min 600 (max 1 (natAt args 9))
    openColour := if byteAt args 11 = 0#8 then none else some (halfAt args 12)
    start := none, closeReq := none, fill := none, fillColour := none }

/-- The close that a CLOSE_SESSION asks for: its colour, else the open fill colour, else 0x0000; none without blank (R112). -/
def closeAsked (s : State) (blank given lo hi : Byte) : Close :=
  if blank = 0#8 then .plain
  else if given = 0#8 then
    .blank (match s.session.record with | some r => r.openColour.getD 0#16 | none => 0#16)
  else .blank (hi ++ lo)

/-! ## What a tick takes (R22, R23) -/

/-- The commands of every timed event, in the order in which a tick takes those that are due (log entry 4: the model's choice). -/
def dueCommands : List Instr :=
  allPorts.map .interByteTimeout ++ allPorts.map .stall ++ allChns.map (fun c => .refill (c.val + 1)) ++
    allChns.map (fun c => .lastForwardTimeExpiry (c.val + 1)) ++ allEntries.map (fun e => .deadline e.val) ++
    [.sessionLimitExpiry] ++ allChns.map (fun c => .gapWaitEnd (c.val + 1))

/-- From `s` the commands `is` lead to `t`, one after the other. -/
def Leads : List Instr → State → State → Prop
  | [], s, t => t = s
  | i :: is, s, t => ∃ u, exec i s = .next u ∧ Leads is u t

/-! ## The arrival of a frame, and its answers -/

/-- The byte `b` is the second CRC byte of the good frame `f` on the link of `p` (R156, R158). -/
def Completes (s : State) (p : Port) (b : Byte) (f : RxFrame) : Prop := classify (rxOf s p) b = .good f

/-- The byte `b` completes a good frame of type `ty` with the body `body` on the link of `p`, which is UP; the body stands in
`n` blocks charged to `p` (R37, R160). -/
structure Arrives (s : State) (p : Port) (b : Byte) (ty : FrameType) (n : Nat) (body : List Byte) : Prop where
  up : (s.link p).state = .up
  frame : ∃ f, Completes s p b f ∧ f.ty = ty ∧ f.hold = .charged n ∧ f.body = body

/-- A CONTROL of request code `code` with the control tag `tag` and the arguments `args` arrives from `p` (R171). -/
def Asks (s : State) (p : Port) (b : Byte) (n : Nat) (code tag : Byte) (args : List Byte) : Prop :=
  Arrives s p b .control n (code :: tag :: args)

/-- The state in which a frame of `p` is taken: its last byte has been clocked, and it has left receive assembly. -/
def handed (p : Port) (s : State) : State := setRx p .hunt (clockOut p s)

/-- The same with all blocks of the frame but the first released (R25, R40, R171). -/
def kept (p : Port) (n : Nat) (s : State) : State := release p (n - 1) (handed p s)

/-- The event ends with an answer of `p` in the first block of the frame it answers, at the tail of its internal part-frame
queue (R25, R73), and with what ends the event of a byte (`byteEnd`). -/
def answered (p : Port) (what : PartFrame) (u : State) : State :=
  byteEnd p (pushPart p { what := what, block := .charged } u)

/-- A frame of `n` blocks from `p` is refused with a verdict, and nothing else changes (R25, R164). -/
def refusedAs (p : Port) (n : Nat) (why : Reason) (ty : FrameType) (ids : List Byte) (s : State) : State :=
  answered p (.verdict why ty.code ids) (kept p n s)

/-- The port and the byte of a command that is the arrival of a byte. -/
def byteOf : Instr → Option (Port × Byte)
  | .frameHeader p b => some (p, b)
  | .unknownTypeDiscard p b => some (p, b)
  | .lengthOverrunDiscard p b => some (p, b)
  | .crcMismatch p b => some (p, b)
  | .hello p b => some (p, b)
  | .request p b => some (p, b)
  | .post p b => some (p, b)
  | .reply p b => some (p, b)
  | .extend p b => some (p, b)
  | .cancel p b => some (p, b)
  | .drawWindow p b => some (p, b)
  | .drawPixels p b => some (p, b)
  | .unknownRequest p b => some (p, b)
  | .queryLink p b => some (p, b)
  | .queryChannel p b => some (p, b)
  | .querySession p b => some (p, b)
  | .queryNotices p b => some (p, b)
  | .setNoticeMask p b => some (p, b)
  | .hold p b => some (p, b)
  | .release p b => some (p, b)
  | .setBar p b => some (p, b)
  | .clearBar p b => some (p, b)
  | .writeChannel p b => some (p, b)
  | .removeChannel p b => some (p, b)
  | .writeSettings p b => some (p, b)
  | .copyArea p b => some (p, b)
  | .activate p b => some (p, b)
  | .fullClear p b => some (p, b)
  | .openSession p b => some (p, b)
  | .closeSession p b => some (p, b)
  | .touchRestart p b => some (p, b)
  | .controlMalformed p b => some (p, b)
  | .receiveAssemblyByte p b => some (p, b)
  | .powerOnReset => none
  | .interByteTimeout _ => none
  | .framingError => none
  | .ctsChange _ _ => none
  | .transmissionComplete _ => none
  | .gapWaitEnd _ => none
  | .lastForwardTimeExpiry _ => none
  | .refill _ => none
  | .deadline _ => none
  | .stall _ => none
  | .sessionLimitExpiry => none
  | .runComplete => none
  | .attentionAssert => none
  | .touchReadNack => none
  | .touchReadComplete _ => none
  | .timeBaseTick => none
  | .attentionRelease => none

/-- The command of a control request. -/
def ctlCommand (c : Ctl) (p : Port) (b : Byte) : Instr :=
  match c with
  | .queryLink => .queryLink p b
  | .queryChannel => .queryChannel p b
  | .querySession => .querySession p b
  | .queryNotices => .queryNotices p b
  | .setNoticeMask => .setNoticeMask p b
  | .hold => .hold p b
  | .release => .release p b
  | .setBar => .setBar p b
  | .clearBar => .clearBar p b
  | .writeChannel => .writeChannel p b
  | .removeChannel => .removeChannel p b
  | .writeSettings => .writeSettings p b
  | .copyArea => .copyArea p b
  | .activate => .activate p b
  | .fullClear => .fullClear p b
  | .openSession => .openSession p b
  | .closeSession => .closeSession p b
  | .touchRestart => .touchRestart p b

/-- The frame type that a command takes, for the commands that are the second CRC byte of a good frame. -/
def frameTypeTaken (i : Instr) : Option FrameType :=
  match i with
  | .hello _ _ => some .hello
  | .request _ _ => some .request
  | .post _ _ => some .post
  | .reply _ _ => some .reply
  | .extend _ _ => some .extend
  | .cancel _ _ => some .cancel
  | .drawWindow _ _ => some .drawWindow
  | .drawPixels _ _ => some .drawPixels
  | .unknownRequest _ _ => some .control
  | .queryLink _ _ => some .control
  | .queryChannel _ _ => some .control
  | .querySession _ _ => some .control
  | .queryNotices _ _ => some .control
  | .setNoticeMask _ _ => some .control
  | .hold _ _ => some .control
  | .release _ _ => some .control
  | .setBar _ _ => some .control
  | .clearBar _ _ => some .control
  | .writeChannel _ _ => some .control
  | .removeChannel _ _ => some .control
  | .writeSettings _ _ => some .control
  | .copyArea _ _ => some .control
  | .activate _ _ => some .control
  | .fullClear _ _ => some .control
  | .openSession _ _ => some .control
  | .closeSession _ _ => some .control
  | .touchRestart _ _ => some .control
  | .controlMalformed _ _ => some .control
  | .powerOnReset => none
  | .frameHeader _ _ => none
  | .unknownTypeDiscard _ _ => none
  | .lengthOverrunDiscard _ _ => none
  | .crcMismatch _ _ => none
  | .interByteTimeout _ => none
  | .framingError => none
  | .ctsChange _ _ => none
  | .transmissionComplete _ => none
  | .gapWaitEnd _ => none
  | .lastForwardTimeExpiry _ => none
  | .refill _ => none
  | .deadline _ => none
  | .stall _ => none
  | .sessionLimitExpiry => none
  | .runComplete => none
  | .attentionAssert => none
  | .touchReadNack => none
  | .touchReadComplete _ => none
  | .timeBaseTick => none
  | .attentionRelease => none
  | .receiveAssemblyByte _ _ => none

end Sys2Proof.Safety
end

