-- ==== Sys2Proof/Certificates/Slice0/Obligations.lean ====
section
/-! DEFINITION. The statements for the provers, from the numbered rules of the manual: the step and the whole machine, the
invariants that every step keeps, the egress arbiters and the display filter, and every command, family by family. A
command's statement gives the state it answers: `settle` is the take of the panel arbiter and the grants that every event
ends with (R71, R134), and the statements about `settle` say what those can change; `byteEnd p` is the same for the arrival of a
byte on the link of `p`, with the completion of a frame that the byte has clocked out whole (R154; TransmissionCompletes). -/

open Sys2Proof Sys2Proof.Machine Sys2Proof.Safety

/-! ## The step, and reset -/

/-- One step takes the command at the front of the queue and is `exec` of it on the state with the queue's rest; on an empty
queue the part idles (log entry 6: the model's choice). -/
def Obligations.StepTakesFrontCommand : Prop :=
  (∀ c rest s, s.pending = c :: rest → step s = exec c { s with pending := rest }) ∧
    ∀ s, s.pending = [] → step s = .next s

/-- Every command answers a next state, leaves the commands that wait where they are, and leaves the time base as it is, but for the tick, which advances it by 1 modulo 2^32, and power-on reset, which sets it to 0 (R22). The model's choices: that every
command answers a next state in every state (log entries 2 and 15), that commands wait in a queue, and that time moves by the tick
command alone (log entry 6). -/
def Obligations.CommandsKeepQueueAndTime : Prop :=
  ∀ i s, ∃ t, exec i s = .next t ∧ t.pending = s.pending ∧
    (i = .timeBaseTick → t.time = s.time + 1#32) ∧ (i = .powerOnReset → t.time = 0#32) ∧
    (i ≠ .timeBaseTick → i ≠ .powerOnReset → t.time = s.time)

/-- The values after reset that the manual gives, block by block, and POWER_ON_RESET, which gives every block its value after reset
(R5, R22, R37, R42, R70, R85, R104, R123, R133, R141, R154, R155, R165, R180). A read begins
at once where the attention input is asserted (R141). The model's choices: the levels of the two inputs stand (log entry 1), the
commands that wait stand (log entry 6), the fields without meaning, the byte presented on an SPI link and the last-started mark take
fixed values (log entry 13), and no refill is remembered (log entry 19); that the command completes in every state is log entry 2. -/
def Obligations.ResetValues : Prop :=
  (let t := State.reset
   t.time = 0#32 ∧ t.radio.rts = true ∧
   (∀ p, (t.link p).state = .down ∧ (t.link p).rx = .hunt ∧ (t.link p).errors = 0 ∧ (t.link p).reserve = 0 ∧
     (t.link p).stall = none ∧ (t.link p).ready = false ∧ t.chargedTo p = 0 ∧
     t.arb p = { tx := none, iq := [], ptr3 := ⟨none, none, none⟩, ptr4 := ⟨none, none, none⟩ } ∧
     t.notice p = { mask := 0#16, set := 0#16, st := .none, again := false }) ∧
   (∀ i, (∀ c : Chn, (areaOfId t i).recs.get c = none) ∧ (∀ p, (areaOfId t i).settings.get p = ⟨.fixed, 50⟩) ∧
     (areaOfId t i).bannerRows = 0) ∧
   t.policy.active = .a ∧ t.policy.pendingSwitch = none ∧
   (∀ c, t.chan c = { credit := 0, ownHold := false, bar := false, outstanding := 0, fwd := [], retries := [], ret := [],
                      lastForward := none, refillAt := none, lastRefill := none }) ∧
   (∀ e, (t.entry e).st = .free ∧ (t.entry e).gen = 0 ∧ (t.entry e).tag = none ∧ (t.entry e).deadline = none ∧
     (t.entry e).req = none ∧ (t.entry e).status = none ∧ (t.entry e).withdraw = false) ∧
   t.session = { state := .idle, record := none, secureInd := false, limitAt := none } ∧
   (∀ x, t.draw x = { queue := [], window := ⟨⟨0, 319, 0, 239⟩, .row⟩, cx := 0, cy := 0, next := none } ∧
     t.touchQueue x = []) ∧
   t.run = none ∧ t.touch.failures = 0 ∧ t.touch.slot0 = none ∧ t.touch.slot1 = none) ∧
  ∀ s, ∃ t, exec .powerOnReset s = .next t ∧ t.pending = s.pending ∧ t.time = 0#32 ∧ t.links = State.reset.links ∧
    t.radio = { cts := s.radio.cts, lastStarted := false, rts := true } ∧ t.charged = ⟨0, 0, 0⟩ ∧
    t.arbs = State.reset.arbs ∧ t.policy = State.reset.policy ∧ t.chans = State.reset.chans ∧
    t.exch = State.reset.exch ∧ t.session = State.reset.session ∧ t.draws = State.reset.draws ∧ t.run = none ∧
    t.notices = State.reset.notices ∧
    t.touch = { link := if s.touch.attention then .reading else .idle, failures := 0, slot0 := none, slot1 := none,
                queues := ⟨[], []⟩, attention := s.touch.attention }

/-! ## What every step keeps -/

/-- The state after reset meets every invariant, by the values of R5, R37, R42, R85, R104, R123, R133, R141, R165 and R180. -/
def Obligations.ResetMeetsInvariants : Prop :=
  SessionOk State.reset ∧ BufferOk State.reset ∧ QueuesOk State.reset ∧ CreditOk State.reset ∧ PanelOk State.reset ∧
    ExchangesOk State.reset ∧ PortsDiffer State.reset ∧ NoticesOk State.reset ∧ AreasOk State.reset ∧ DrawsOk State.reset

/-- SECURE_IND is on exactly in ACTIVE, and the session record, its timer, its fill progress and the pending switch fit the
session state, after every step from a state where they do (R105, R107, R110, R111, R115, R94). -/
def Obligations.StepKeepsSession : Prop := ∀ s t, SessionOk s → step s = .next t → SessionOk t

/-- No port's charge passes its quota, no port has more than two reserve blocks in use, and no error count passes 65535. A frame in
transmission on an SPI link always has a byte left to clock, and a port's stall timer runs, and the ready line of an SPI link is
asserted, exactly while a frame is in transmission on its link (R37, R38, R154, R168). -/
def Obligations.StepKeepsBuffer : Prop := ∀ s t, BufferOk s → step s = .next t → BufferOk t

/-- No forward, draw or touch queue passes its capacity, and the failure count stands at its limit exactly in FAULT (R17, R127,
R144, R149). -/
def Obligations.StepKeepsQueues : Prop := ∀ s t, QueuesOk s → step s = .next t → QueuesOk t

/-- The credit of every number lies in 0..CreditBase of its record in force, and is 0 where the number is absent (R6, R30). -/
def Obligations.StepKeepsCredit : Prop := ∀ s t, CreditOk s → step s = .next t → CreditOk t

/-- While the session is ACTIVE or CLOSING, no pixel of an AD run in progress lies inside the protected rectangle (R113). -/
def Obligations.StepKeepsPanel : Prop := ∀ s t, PanelOk s → step s = .next t → PanelOk t

/-- The exchange table and the queues agree after every step: each queued request, waiting retry and reply in one place, the
outstanding count of each number equal to its unanswered exchanges, a deadline exactly while FORWARDED, a reply due to every
ended exchange, and no requester above its quota (R7, R19, R44, R45, R46, R53, R54, R66). -/
def Obligations.StepKeepsExchanges : Prop := ∀ s t, ExchangesOk s → step s = .next t → ExchangesOk t

/-- The requester of a live exchange is never its responder (R2, R44). -/
def Obligations.StepKeepsPortsDiffer : Prop :=
  ∀ s t, ExchangesOk s → AreasOk s → PortsDiffer s → step s = .next t → PortsDiffer t

/-- A port has at most one NOTICE waiting or in transmission, as its NOTICE state says, and mask and set hold the nine
conditions only (R182, R183). -/
def Obligations.StepKeepsNotices : Prop := ∀ s t, NoticesOk s → step s = .next t → NoticesOk t

/-- Every record and every setting of both areas stays in its range (R2, R90). -/
def Obligations.StepKeepsAreas : Prop := ∀ s t, AreasOk s → step s = .next t → AreasOk t

/-- The cursor of a source never leaves its window, every window lies on the panel, and the next pixel is one of the frame at
the head (R123, R125, R128). -/
def Obligations.StepKeepsDraws : Prop := ∀ s t, DrawsOk s → step s = .next t → DrawsOk t

/-- The fixed quotas suffice: the internal pool never needs more than 57 blocks (16 touch events, 3 NOTICEs, 32 WITHDRAWs and 6 reserve
blocks), and a requester below its exchange quota finds a free entry, because the quotas sum to 32 (R41, R44). -/
def Obligations.QuotasSuffice : Prop :=
  (∀ s, QueuesOk s → BufferOk s → poolInUse s ≤ 57) ∧
    ∀ s p, ExchangesOk s → heldBy s p < exchangeQuota p → ∃ e, lowestFree s = some e ∧ live s e = false

/-- A byte from AD or RD, whatever it completes, leaves the policy store, the session state, SECURE_IND and the session limit
as they were: the requests that change them are PD's (R172, R173). -/
def Obligations.OtherPortsKeepPolicyAndSession : Prop :=
  ∀ i p b s t, byteOf i = some (p, b) → p ≠ .pd → exec i s = .next t →
    t.policy = s.policy ∧ t.session.state = s.session.state ∧ t.session.secureInd = s.session.secureInd ∧
      t.session.limitAt = s.session.limitAt

/-- The active area and its contents change only in a step that leaves the session IDLE (R87, R93, R99, R100). -/
def Obligations.ActiveAreaStandsInSession : Prop :=
  ∀ s t, step s = .next t → t.session.state ≠ .idle →
    t.policy.active = s.policy.active ∧ activeArea t = activeArea s

/-! ## The egress arbiters and the panel arbiter -/

/-- The take and the grants that end an event change only what a take and a grant change: not the time base, the policy store,
the touch router, the state, receive assembly, error count or reserve blocks of a link, the session state, SECURE_IND, the session
limit, credit, BAR, outstanding counts, refill timers, masks and sets; a frame in transmission and a run in progress stand; and
no exchange but a QUEUED one moves (R71, R82, R134). -/
def Obligations.SettleFrame : Prop :=
  ∀ s, let t := settle s
    t.pending = s.pending ∧ t.time = s.time ∧ t.policy = s.policy ∧ t.touch = s.touch ∧ t.radio.cts = s.radio.cts ∧
    t.radio.rts = s.radio.rts ∧ t.session.state = s.session.state ∧ t.session.secureInd = s.session.secureInd ∧
    t.session.limitAt = s.session.limitAt ∧
    (∀ p, (t.link p).state = (s.link p).state ∧ (t.link p).rx = (s.link p).rx ∧ (t.link p).errors = (s.link p).errors ∧
      (t.link p).reserve = (s.link p).reserve ∧ (t.link p).dataOut = (s.link p).dataOut ∧
      (t.notice p).mask = (s.notice p).mask ∧ (t.notice p).set = (s.notice p).set ∧
      (t.notice p).again = (s.notice p).again ∧
      ((s.arb p).tx.isSome = true → t.arb p = s.arb p ∧ t.link p = s.link p)) ∧
    (∀ c, (t.chan c).credit = (s.chan c).credit ∧ (t.chan c).bar = (s.chan c).bar ∧
      (t.chan c).outstanding = (s.chan c).outstanding ∧ (t.chan c).refillAt = (s.chan c).refillAt ∧
      (t.chan c).lastRefill = (s.chan c).lastRefill) ∧
    (ExchangesOk s → ∀ e, (s.entry e).st ≠ .queued → t.entry e = s.entry e) ∧
    (s.run.isSome = true → t.run = s.run ∧ t.draws = s.draws ∧ t.charged = s.charged ∧ t.session = s.session)

/-- After the take and the grants of an event nothing eligible waits at a free link: an arbiter that may grant has no candidate
in any of the four steps (no part frame, no touch event, no return queue whose head names the port, no forward to it that is neither
held nor barred nor in its gap), and a free panel link has an empty draw queue on either side and no fill row to take (R12, R34,
R71, R74, R75, R76, R134). -/
def Obligations.NothingEligibleWaits : Prop :=
  ∀ s, let t := settle s
    (∀ p, (t.link p).state = .up → (t.arb p).tx = none →
      (t.arb p).iq = [] ∧ (∀ x, screenOf p = some x → t.touchQueue x = []) ∧ (∀ c, ¬ Replyable t p c) ∧
        ∀ c, ¬ Forwardable t p c) ∧
    (t.run = none → (∀ x, (t.draw x).queue = []) ∧ fillRun t = none)

/-- The number picked among the eligible ones has the highest class, and within its class the first place in the order of the
mode; a number is picked wherever one is eligible. A number absent from the active area is of class APP (R75, R79, R80). -/
def Obligations.PickFollowsClassAndMode : Prop :=
  (∀ s c, (∀ r, recordOf s c = some r → classOfChn s c = r.cls) ∧ (recordOf s c = none → classOfChn s c = .app)) ∧
  ∀ s m ptrs (eligible : Chn → Bool),
    (pick s m ptrs eligible = none ↔ ∀ c, eligible c = false) ∧
    ∀ c, pick s m ptrs eligible = some c →
      eligible c = true ∧
        ∀ d, eligible d = true →
          classRank (classOfChn s c) ≤ classRank (classOfChn s d) ∧
            (classOfChn s c = classOfChn s d →
              placeOf m (ptrs.get (classOfChn s c)) c ≤ placeOf m (ptrs.get (classOfChn s c)) d)

/-- At each grant the arbiter takes the first of the four steps that has a candidate: internal part frames, touch events,
replies, forwards; the stall timer starts with the StallLimit of the active area, and the ready line of an SPI link is asserted. Each
frame is laid out as the manual lays it out, a NOTICE reads the pending set at its grant, and a reply sent holds the responder's
blocks. The reply picked is the head of a return queue that names the port, and the forward picked one of a number whose Peer is the
port, neither held nor barred nor in its gap; of each the first in the port's own order, by the pointers of its step (R12, R34, R40,
R53, R65, R72 to R76, R80, R163, R164, R168, R182). -/
def Obligations.GrantTakesFirstStep : Prop :=
  (∀ s p, FramesLaidOut s p ∧ CandidatesOk s p) ∧
  ∀ s p, (s.link p).state = .up → (s.arb p).tx = none →
    let t := grant p s
    (∀ f rest, (s.arb p).iq = f :: rest →
      (t.arb p).iq = rest ∧ t.touch = s.touch ∧ t.chans = s.chans ∧ t.exch = s.exch ∧
        (f.what = .notice → t.notices = s.notices.set p { s.notice p with st := .sending }) ∧
        (f.what ≠ .notice → t.notices = s.notices) ∧
        (t.arb p).tx =
          some { ty := (partWire s p f).1, body := (partWire s p f).2.1, sent := 0, source := (partWire s p f).2.2 }) ∧
    ((s.arb p).iq = [] →
      (∀ ev, touchHead s p = some ev →
        t.touch = s.touch ∧ t.chans = s.chans ∧ t.exch = s.exch ∧
          t.arb p = { s.arb p with tx := some { ty := 0x89#8, body := touchBody ev, sent := 0, source := .touch } }) ∧
      (touchHead s p = none →
        (∀ c i rest, pickReply s p = some c → (s.chan c).ret = i :: rest →
          t.chan c = { s.chan c with ret := rest } ∧ (∀ d, d ≠ c → t.chan d = s.chan d) ∧ t.exch = s.exch ∧
            (t.arb p).ptr3 = (s.arb p).ptr3.set (classOfChn s c) c ∧ (t.arb p).ptr4 = (s.arb p).ptr4 ∧
            (t.arb p).tx =
              some { ty := 0x84#8, body := replyOut s c i, sent := 0,
                     source := .reply i.entry
                       (match i.frame with
                        | some f => some { port := (s.entry i.entry).responder, blocks := f.blocks }
                        | none => none)
                       false }) ∧
        (pickReply s p = none → (∀ c, pickForward s p = some c → t = grantForward p c s) ∧
          (pickForward s p = none → t = s)))) ∧
    ((t.arb p).tx.isSome = true →
      (t.link p).stall = some (after s.time (10 * (settingsOf s p).stallLimit)) ∧
        (t.link p).ready = decide (p ≠ .rd))

/-- The grant of a forward: the oldest waiting retry, or else the head of the forward queue. A request becomes FORWARDED with
the deadline ResponseLimit after the grant; the grant time becomes the last forward time; the pointer of step 4 takes the number;
a post sets own HOLD where AutoHold is yes in the active area (R11, R35, R47, R49, R77, R78, R80). -/
def Obligations.GrantOfForward : Prop :=
  ∀ s p c, let t := grantForward p c s
    let ch := s.chan c
    let sent (e : EntryIx) : Prop :=
      t.entry e =
        { s.entry e with st := .forwarded, fwdOnce := true, extCount := 0,
                         deadline := some (after s.time (s.entry e).snap.responseLimit) } ∧
      (∀ d, d ≠ e → t.entry d = s.entry d) ∧
      ∀ r, (s.entry e).req = some r →
        (t.arb p).tx =
          some { ty := 0x82#8, sent := 0, source := .forward e none,
                 body := [chnByte c, countByte ((s.entry e).gen * 32 + e.val), countByte (s.entry e).kind.val,
                          countByte (s.entry e).attempt] ++ r.payload }
    (∀ e rest, ch.retries = e :: rest →
      t.chan c = { ch with retries := rest, lastForward := some s.time } ∧ sent e) ∧
    (∀ e rest, ch.retries = [] → ch.fwd = .request e :: rest →
      t.chan c = { ch with fwd := rest, lastForward := some s.time } ∧ sent e) ∧
    (∀ m rest, ch.retries = [] → ch.fwd = .post m :: rest →
      t.exch = s.exch ∧
      t.chan c = { ch with fwd := rest, lastForward := some s.time,
                           ownHold := ch.ownHold || (match recordOf s c with | some r => r.autoHold | none => false) } ∧
      (t.arb p).tx =
        some { ty := 0x83#8, sent := 0, source := .post { port := m.sender, blocks := m.blocks },
               body := [chnByte c, m.label] ++ leNat m.kind.val ++ m.payload }) ∧
    (∀ d, d ≠ c → t.chan d = s.chan d) ∧ (t.arb p).ptr4 = (s.arb p).ptr4.set (classOfChn s c) c ∧
    (t.arb p).ptr3 = (s.arb p).ptr3 ∧ (t.arb p).iq = (s.arb p).iq

/-- The panel arbiter takes PD's draw queue first, then the fill, then AD's draw queue; a run in progress stands. A fill run writes
columns x0 to x1 of the next fill row in the fill colour in use, and its take raises the next fill row by 1. A run formed is of
unmasked pixels, lies in one line of its window, and stops at the line wrap, before a masked pixel or at the end of its frame; it
carries the pixels of the head frame as they stand, in order, from its next pixel and the cursor on, and the next pixel moves on by
the pixels passed over and taken. A window at the head sets window and cursor and gives its blocks back, and so does a frame whose
remaining pixels are all masked. A take leaves what the formation leaves. An AD pixel is masked exactly in a banner row and, out of
IDLE, inside the rectangle of the session (R40, R115, R119, R126 to R132, R134, R135, R136). -/
def Obligations.PanelTakes : Prop :=
  (∀ s x, Formation s x) ∧
  (∀ s px py, maskFor s .pd px py = false ∧
    (maskFor s .ad px py = true ↔ py < (activeArea s).bannerRows ∨
      s.session.state ≠ .idle ∧ ∃ q, s.session.record = some q ∧
        q.rect.x0 ≤ px ∧ px ≤ q.rect.x1 ∧ q.rect.y0 ≤ py ∧ py ≤ q.rect.y1)) ∧
  (∀ s x r, (formFor s x).run = some r →
    let d := (formFor s x).draw
    let last := runPixel r (r.pixels.length - 1)
    let wraps (q : Nat × Nat) : Prop :=
      match d.window.order with
      | .row => d.window.rect.x1 ≤ q.1
      | .column => d.window.rect.y1 ≤ q.2
    r.source = .frame x ∧ r.dir = d.window.order ∧ r.pixels ≠ [] ∧ (d.cx, d.cy) = advance d.window last.1 last.2 ∧
      (∀ k, k < r.pixels.length → maskFor s x (runPixel r k).1 (runPixel r k).2 = false) ∧
      (∀ k, k + 1 < r.pixels.length → ¬ wraps (runPixel r k)) ∧
      (wraps last ∨ maskFor s x d.cx d.cy = true ∨ r.last.isSome = true) ∧ (r.last.isSome = true ↔ d.next = none)) ∧
  (∀ s r, (formFor s .ad).run = some r →
    ∀ k, k < r.pixels.length →
      (activeArea s).bannerRows ≤ (runPixel r k).2 ∧
        ∀ q, s.session.record = some q → s.session.state ≠ .idle →
          q.rect.holds (runPixel r k).1 (runPixel r k).2 = false) ∧
  (∀ s, (s.session.state ≠ .closing → fillRun s = none) ∧
    ∀ q f colour, s.session.state = .closing → s.session.record = some q → q.fill = some f → q.fillColour = some colour →
      (f.next ≤ f.last →
        fillRun s =
          some { source := .fill, x := q.rect.x0, y := f.next, dir := .row,
                 pixels := List.replicate (q.rect.x1 + 1 - q.rect.x0) colour, last := none } ∧
        (nextFillRow s).session =
          { s.session with record := some { q with fill := some ⟨f.next + 1, f.last⟩ } }) ∧
      (f.last < f.next → fillRun s = none)) ∧
  ∀ s, (s.run.isSome = true → panelTake s = s) ∧
    (s.run = none →
      let left (x : Screen) (u : State) : State :=
        let f := formFor s x
        if (s.draw x).queue = [] then u
        else (u.setDraw x f.draw).setCharged (portOfScreen x) (s.chargedTo (portOfScreen x) - f.released)
      let v := left .pd s
      (∀ r, (formFor s .pd).run = some r → panelTake s = v.setRun (some r)) ∧
      ((formFor s .pd).run = none →
        (∀ r, fillRun s = some r → panelTake s = nextFillRow (v.setRun (some r))) ∧
        (fillRun s = none → panelTake s = (left .ad v).setRun (formFor s .ad).run)))

/-- The cursor of a window of w columns and h rows stays inside it and comes back to (x0, y0) after every w × h advances, and
not before. An advance goes along the row in ROW order and down the column in COLUMN order, and at the end of a line to the first
position of the next line, or of the first one (R128). -/
def Obligations.CursorComesBack : Prop :=
  (∀ (w : Window) (x y : Nat),
    (w.order = .row → advance w x y =
      (if x < w.rect.x1 then x + 1 else w.rect.x0, if x < w.rect.x1 then y else if y < w.rect.y1 then y + 1 else w.rect.y0)) ∧
    (w.order = .column → advance w x y =
      (if y < w.rect.y1 then x else if x < w.rect.x1 then x + 1 else w.rect.x0, if y < w.rect.y1 then y + 1 else w.rect.y0))) ∧
  ∀ w : Window, RectOk w.rect →
    let next (c : Nat × Nat) : Nat × Nat := advance w c.1 c.2
    let home : Nat × Nat := (w.rect.x0, w.rect.y0)
    let n := (w.rect.x1 - w.rect.x0 + 1) * (w.rect.y1 - w.rect.y0 + 1)
    next^[n] home = home ∧ (∀ k, 0 < k → k < n → next^[k] home ≠ home) ∧
      ∀ k, w.rect.holds (next^[k] home).1 (next^[k] home).2 = true

/-! ## Bytes and headers -/

/-- A byte that completes nothing moves receive assembly one state on, stamped with its arrival time; on an SPI link it clocks
out the next byte of the frame in transmission, or the filler where there is none, and on the radio link nothing. A body byte is
stored where the frame is held in charged blocks, and only counted and checked where it is kept in a reserve block, dropped or
uncharged (R37, R38, R154, R158, R159). The model's choices: the sync byte taken in HUNT carries its time as well (log entry 10), and
HUNT after a stall knows the frame that lacks only its second CRC byte (log entry 18). -/
def Obligations.AssemblyByte : Prop :=
  ∀ p b s,
    let v := clockOut p s
    (classify (rxOf s p) b = .assembly →
      exec (.receiveAssemblyByte p b) s =
        .next (byteEnd p (v.setLink p { v.link p with rx := assembleNext s.time (rxOf s p) b }))) ∧
    (p = .rd → v = s) ∧
    (p ≠ .rd → (s.arb p).tx = none → v = s.setLink p { s.link p with dataOut := 0x00#8 }) ∧
    (p ≠ .rd → ∀ t, (s.arb p).tx = some t → t.sent < t.body.length + 6 →
      v = (s.setLink p { s.link p with dataOut := byteAt (wireBytes t.ty t.body) t.sent }).setArb p
            { s.arb p with tx := some { t with sent := t.sent + 1 } }) ∧
    (rxOf s p = .hunt ∨ (∃ f hi, rxOf s p = .late f hi) →
      assembleNext s.time (rxOf s p) b = if b = 0xC3#8 then .type s.time else .hunt) ∧
    (∀ seen ty, rxOf s p = .type seen → frameTypeOf b = some ty →
      assembleNext s.time (rxOf s p) b = .length1 ty s.time) ∧
    (∀ ty seen, rxOf s p = .length1 ty seen → assembleNext s.time (rxOf s p) b = .length2 ty b s.time) ∧
    (∀ f seen, rxOf s p = .crc1 f seen → assembleNext s.time (rxOf s p) b = .crc2 f b s.time) ∧
    (∀ f seen, rxOf s p = .body f seen →
      let taken (body : List Byte) : Prop :=
        let g := { f with got := f.got + 1, body := body, crc := crcByte f.crc b,
                          first := if f.got = 0 then some b else f.first }
        assembleNext s.time (rxOf s p) b = if f.got + 1 < f.len then .body g s.time else .crc1 g s.time
      (∀ n, f.hold = .charged n → taken (f.body ++ [b])) ∧
      (f.hold = .reserve ∨ f.hold = .dropped ∨ f.hold = .uncharged → taken f.body))

/-- A header is charged where the port has the blocks free, else kept in a reserve block, else its frame is dropped and counted;
on a link that is not UP a frame other than HELLO is received without charge (R36, R37, R38, R39). That a dropped frame is counted at its header is log entry 8: the model's choice. -/
def Obligations.FrameHeaderHeld : Prop :=
  ∀ p b s ty lo, classify (rxOf s p) b = .header ty lo →
    let v := clockOut p s
    let n := (b ++ lo).toNat
    let blocks := max 1 ((n + 63) / 64)
    let rx (h : RxHold) : Rx :=
      let f : RxFrame :=
        { ty := ty, len := n, hold := h, got := 0, body := [], first := none, crc := crcOf [ty.code, lo, b] }
      if n = 0 then .crc1 f s.time else .body f s.time
    ((s.link p).state = .up ∨ ty = .hello →
      (blocks + s.chargedTo p ≤ blockQuota p →
        exec (.frameHeader p b) s =
          .next (byteEnd p ((v.setCharged p (s.chargedTo p + blocks)).setLink p
            { v.link p with rx := rx (.charged blocks) }))) ∧
      (blockQuota p < blocks + s.chargedTo p → (s.link p).reserve < 2 →
        exec (.frameHeader p b) s =
          .next (byteEnd p (v.setLink p
            { v.link p with reserve := (s.link p).reserve + 1, rx := rx .reserve }))) ∧
      (blockQuota p < blocks + s.chargedTo p → 2 ≤ (s.link p).reserve →
        exec (.frameHeader p b) s =
          .next (byteEnd p (v.setLink p
            { v.link p with errors := min 65535 ((s.link p).errors + 1), rx := rx .dropped })))) ∧
    ((s.link p).state ≠ .up → ty ≠ .hello →
      exec (.frameHeader p b) s = .next (byteEnd p (v.setLink p { v.link p with rx := rx .uncharged })))

/-- A sync candidate is discarded at an unknown type and at a length above 1040: the error count rises, and the bytes after the
sync are examined again in HUNT, where the next sync may be one of them (R158). That bytes examined again carry the present time, and
that each sync candidate among them that is discarded is counted, is log entry 10: the model's choice. -/
def Obligations.SyncCandidateDiscarded : Prop :=
  ∀ p b s,
    let v := clockOut p s
    let hunted : Rx := if b = 0xC3#8 then .type s.time else .hunt
    let after (k : Nat) (rx : Rx) : Result :=
      .next (byteEnd p (v.setLink p { v.link p with errors := min 65535 ((s.link p).errors + k), rx := rx }))
    (classify (rxOf s p) b = .unknownType → exec (.unknownTypeDiscard p b) s = after 1 hunted) ∧
    (∀ ty lo, classify (rxOf s p) b = .lengthOverrun ty lo →
      (lo ≠ 0xC3#8 → exec (.lengthOverrunDiscard p b) s = after 1 hunted) ∧
      (lo = 0xC3#8 → ∀ t, frameTypeOf b = some t →
        exec (.lengthOverrunDiscard p b) s = after 1 (.length1 t s.time)) ∧
      (lo = 0xC3#8 → frameTypeOf b = none → exec (.lengthOverrunDiscard p b) s = after 2 hunted))

/-- A frame that fails its CRC, a frame cut by the inter-byte timeout, and one cut by a framing error on the radio link give
back their blocks or their reserve block, are counted, and leave receive assembly in HUNT; a framing error in HUNT is passed over
(R37, R38, R155, R158, R159). The model's choices: a lone sync byte times out as well (log entry 10), a frame dropped at its header is
counted again where it breaks (log entry 8), and a frame that lacked its second CRC byte at a stall is gone with a byte that has a
framing error (log entry 18). -/
def Obligations.BrokenFramesReleased : Prop :=
  ∀ p b s,
    let back (h : RxHold) (u : State) : State :=
      match h with
      | .charged n => u.setCharged p (s.chargedTo p - n)
      | .reserve => u.setLink p { u.link p with reserve := (s.link p).reserve - 1 }
      | .dropped => u
      | .uncharged => u
    let counted (u : State) : State :=
      u.setLink p { u.link p with rx := .hunt, errors := min 65535 ((s.link p).errors + 1) }
    (∀ f, classify (rxOf s p) b = .crcMismatch f →
      exec (.crcMismatch p b) s = .next (byteEnd p (counted (back f.hold (clockOut p s))))) ∧
    (∀ t, lastSeen (rxOf s p) = some t → s.time = t + 21#32 →
      exec (.interByteTimeout p) s =
        .next (settle (counted (match partialFrame (rxOf s p) with | some f => back f.hold s | none => s)))) ∧
    (∀ t, p = .rd → lastSeen (rxOf s p) = some t →
      exec .framingError s =
        .next (settle (counted (match partialFrame (rxOf s p) with | some f => back f.hold s | none => s)))) ∧
    (rxOf s .rd = .hunt → exec .framingError s = .next s) ∧
    (∀ f hi, rxOf s .rd = .late f hi → exec .framingError s = .next (s.setLink .rd { s.link .rd with rx := .hunt }))

/-- The level inputs: CTS and the touch attention input take the level given; a report read begins at the assertion in IDLE, and
neither input moves a touch link that is READING or in FAULT (R142, R144, R155). The second operand of CTS_CHANGE, whether the last
byte had been started, is the model's own (log entry 12). -/
def Obligations.LevelInputs : Prop :=
  ∀ s cts started,
    exec (.ctsChange cts started) s =
      .next { s with radio := { cts := cts, lastStarted := started, rts := s.radio.rts } } ∧
    (s.touch.link = .idle →
      exec .attentionAssert s = .next { s with touch := { s.touch with attention := true, link := .reading } }) ∧
    (s.touch.link ≠ .idle →
      exec .attentionAssert s = .next { s with touch := { s.touch with attention := true } }) ∧
    exec .attentionRelease s = .next { s with touch := { s.touch with attention := false } }

/-- A good frame that is not taken: one kept in a reserve block is answered NOSPACE, with its channel number for a REQUEST, POST
or REPLY; on a link that is not UP, and for a HELLO with a body, the frame is discarded and counted; one dropped at its header has
no effect (R38, R39, R160, R170). The model's choices: a dropped frame was counted at its header, and a HELLO with a body among them
is not counted again (log entry 8); any CONTROL row takes a CONTROL whose body was not stored (log entry 16); a frame whose second CRC
byte falls together with a stall taken first is received without charge (log entry 18). -/
def Obligations.GoodFramesNotTaken : Prop :=
  ∀ i p b s f, byteOf i = some (p, b) → frameTypeTaken i = some f.ty → Completes s p b f →
    let v := handed p s
    (f.ty ≠ .hello → f.hold = .reserve →
      exec i s =
        .next (byteEnd p (pushPart p
          { what := .verdict .nospace f.ty.code
              (if f.ty = .request ∨ f.ty = .post ∨ f.ty = .reply then f.first.toList else []),
            block := .reserve } v))) ∧
    (f.ty ≠ .hello ∨ f.len ≠ 0 → f.hold = .uncharged →
      exec i s = .next (byteEnd p (v.setLink p { v.link p with errors := min 65535 ((s.link p).errors + 1) }))) ∧
    (f.hold = .dropped → exec i s = .next (byteEnd p v)) ∧
    (f.ty = .hello → f.len ≠ 0 →
      (∀ n, f.hold = .charged n →
        exec i s =
          .next (byteEnd p ((v.setLink p { v.link p with errors := min 65535 ((s.link p).errors + 1) }).setCharged p
            (s.chargedTo p - n)))) ∧
      (f.hold = .reserve →
        exec i s =
          .next (byteEnd p (v.setLink p
            { v.link p with errors := min 65535 ((s.link p).errors + 1),
                            reserve := (s.link p).reserve - 1 }))))

/-! ## HELLO -/

/-- An empty HELLO on a DOWN or STALLED link brings it UP, sets own HOLD on every channel present in the active area whose Peer is
the port, latches LINK_CHANGE for PD, and answers a HELLO_REPLY with link event 0 or 2 and the error count, as the last frame it
places; nothing is torn down (R10, R39, R166, R170). A HELLO whose second CRC byte falls together with a stall taken first is held
again, in a charged block or else in a reserve block (log entry 18: the model's choice). -/
def Obligations.HelloBringsLinkUp : Prop :=
  ∀ p b s f, Completes s p b f → f.ty = .hello → f.len = 0 → (s.link p).state ≠ .up →
    ∀ block, ((∃ n, f.hold = .charged n) ∧ block = .charged ∨ f.hold = .reserve ∧ block = .reserve ∨
        f.hold = .uncharged ∧ s.chargedTo p < blockQuota p ∧ block = .charged ∨
        f.hold = .uncharged ∧ blockQuota p ≤ s.chargedTo p ∧ (s.link p).reserve < 2 ∧ block = .reserve) →
    ∃ u, exec (.hello p b) s = .next (byteEnd p u) ∧
      u.link p =
        { (clockOut p s).link p with
          state := .up, rx := .hunt
          reserve := if f.hold = .uncharged ∧ block = .reserve then (s.link p).reserve + 1 else (s.link p).reserve } ∧
      (∀ q, q ≠ p → u.link q = s.link q) ∧
      (∀ c, u.chan c =
        { s.chan c with
          ownHold := (s.chan c).ownHold || (match recordOf s c with | some r => r.peer == p | none => false) }) ∧
      u.exch = s.exch ∧ u.policy = s.policy ∧ u.session = s.session ∧ u.draws = s.draws ∧ u.touch = s.touch ∧
      u.run = s.run ∧ Latched s u (fun q => if q = .pd then 0x0008#16 else 0#16) ∧
      (∀ n, f.hold = .charged n → u.chargedTo p = s.chargedTo p - (n - 1)) ∧
      (f.hold = .uncharged → block = .charged → u.chargedTo p = s.chargedTo p + 1) ∧
      (block = .reserve → u.chargedTo p = s.chargedTo p) ∧
      (∀ q, q ≠ p → u.chargedTo q = s.chargedTo q) ∧
      (u.arb p).iq =
        (s.arb p).iq ++ noticeMade (s.notice p) (if p = .pd then 0x0008#16 else 0#16) ++
          [{ what := .helloReply (if (s.link p).state = .down then 0#8 else 2#8) (s.link p).errors, block := block }]

/-- An empty HELLO on an UP link is a restart. The part frames of the port, its requests and their replies, its posts and its draw
work are gone, each exchange dropped with a WITHDRAW to its UP responder where it had been forwarded, and the outstanding counts fall.
No work waits toward it: the exchanges QUEUED and FORWARDED end RESTARTED into their return queues, and the posts are discarded with
the verdict ABSENT. Blocks of discarded frames are released, a run in progress is made the last of its frame, contacts of the port
have no owner, its mask and set are emptied and repeat cleared, own HOLD is set on the channels it serves, a frame in transmission goes
on, and the one frame waiting for the port is a HELLO_REPLY with link event 1. A restart of PD closes an open session with blank and
0x0000 (R10, R20, R40, R63, R64, R67, R68, R73, R81, R82, R117, R138, R152, R167, R185, R187). -/
def Obligations.HelloRestartsPort : Prop :=
  ∀ p b s f, Completes s p b f → f.ty = .hello → f.len = 0 → (s.link p).state = .up →
    ExchangesOk s → PortsDiffer s →
    ∀ block, ((∃ n, f.hold = .charged n) ∧ block = .charged ∨ f.hold = .reserve ∧ block = .reserve) →
    ∃ u, exec (.hello p b) s = .next (byteEnd p u) ∧ TornDown s u p .restarted ∧
      u.link p =
        { (clockOut p s).link p with
          rx := .hunt
          reserve := (s.link p).reserve -
            ((s.arb p).iq.filter fun g => g.block == .reserve && isAnswer g.what).length } ∧
      (u.arb p).iq = [{ what := .helloReply 1#8 (s.link p).errors, block := block }] ∧
      (u.arb p).tx = ((clockOut p s).arb p).tx.map (fun t => { t with source := sourceAfter s p .restarted p t.source }) ∧
      (∀ e, live u e = true → (u.entry e).requester = p → (u.entry e).tag = none) ∧
      (∀ q, u.chargedTo q = s.chargedTo q - (tornBlocks s p .restarted q +
        if q = p then (match f.hold with | .charged n => n - 1 | .reserve => 0 | .dropped => 0 | .uncharged => 0) else 0))

/-! ## Requests and posts -/

/-- A REQUEST that passes the nine checks is admitted: the free entry of lowest index is taken with the next generation, the
snapshot and the tag; the cost is debited on a metered channel, the outstanding count rises, and the request joins the tail of
the forward queue. Its blocks stay charged and no answer is made. The body of a REQUEST or POST is number, tag or label, a 16-bit
kind 0..15 low byte first, and 0..1024 bytes of payload. An admission taken after the refill of the same millisecond leaves the credit at
CreditBase (R24, R26, R29, R30, R31, R33, R43, R44, R161); that this sentence of R31 is followed against the worked case is log entry 19:
the model's choice. -/
def Obligations.RequestAdmitted : Prop :=
  (∀ body m, readMessage body = some m ↔
    ∃ lo hi, body = m.chan :: m.second :: lo :: hi :: m.payload ∧ m.kind.val = lo.toNat + 256 * hi.toNat ∧
      m.payload.length ≤ 1024) ∧
  ∀ p b s n body m c r e, Arrives s p b .request n body → readMessage body = some m →
    entryOfTag s p m.second = none → Allowed s p m false c r → (s.chan c).bar = false → effectiveHold s c = false →
    (s.link r.peer).state = .up → (s.chan c).outstanding < r.maxOutstanding → (s.chan c).fwd.length < 4 →
    heldBy s p < exchangeQuota p → lowestFree s = some e →
    (r.creditBase = 0 ∨ 1 + (m.payload.length + 31) / 32 ≤ (s.chan c).credit) →
    exec (.request p b) s =
      .next (byteEnd p (((handed p s).setEntry e
        { gen := ((s.entry e).gen + 1) % 8, st := .queued, chan := c, requester := p, tag := some m.second,
          responder := r.peer, kind := m.kind, attempt := 1, fwdOnce := false, deadline := none, extCount := 0,
          snap := { responseLimit := r.responseLimit, extendStep := r.extendStep, maxExtends := r.maxExtends,
                    retries := r.retries, autoHold := r.autoHold, barOnTimeout := r.barOnTimeout },
          req := some { payload := m.payload, blocks := n }, status := none, withdraw := false }).setChan c
        { s.chan c with
          credit := if r.creditBase = 0 then (s.chan c).credit
                    else if (s.chan c).lastRefill = some s.time then r.creditBase
                    else (s.chan c).credit - (1 + (m.payload.length + 31) / 32)
          outstanding := (s.chan c).outstanding + 1
          fwd := (s.chan c).fwd ++ [.request e] }))

/-- A REQUEST that fails a check of R24 is answered for the first check it fails, in the order of the table: a verdict at steps 1
and 2, a refusal reply with the request's tag at steps 3 to 9, and CREDIT_REFUSED for the owner at step 9. It takes no entry and changes no credit (R24, R25, R30). The model's choices: the refusal of step 9 stands ahead of the NOTICE that
its CREDIT_REFUSED makes (log entry 11), and the premise of a free entry at step 9 is log entry 17. -/
def Obligations.RequestRefused : Prop :=
  ∀ p b s n body, Arrives s p b .request n body →
    (readMessage body = none →
      exec (.request p b) s = .next (refusedAs p n .malformed .request (body.take 2) s)) ∧
    ∀ m, readMessage body = some m →
      let refusal (st : Status) (u : State) : State := pushPart p
        { what := .refusal m.chan m.second m.kind st, block := .charged } u
      (entryOfTag s p m.second ≠ none →
        exec (.request p b) s = .next (refusedAs p n .duplicateTag .request (body.take 2) s)) ∧
      (entryOfTag s p m.second = none →
        ((∀ c r, ¬ Allowed s p m false c r) →
          exec (.request p b) s = .next (byteEnd p (refusal .illegal (kept p n s)))) ∧
        ∀ c r, Allowed s p m false c r →
          ((s.chan c).bar = true → exec (.request p b) s = .next (byteEnd p (refusal .barred (kept p n s)))) ∧
          ((s.chan c).bar = false →
            (effectiveHold s c = true → exec (.request p b) s = .next (byteEnd p (refusal .busy (kept p n s)))) ∧
            (effectiveHold s c = false →
              ((s.link r.peer).state ≠ .up →
                exec (.request p b) s = .next (byteEnd p (refusal .absent (kept p n s)))) ∧
              ((s.link r.peer).state = .up →
                (r.maxOutstanding ≤ (s.chan c).outstanding ∨ 4 ≤ (s.chan c).fwd.length →
                  exec (.request p b) s = .next (byteEnd p (refusal .busy (kept p n s)))) ∧
                ((s.chan c).outstanding < r.maxOutstanding → (s.chan c).fwd.length < 4 →
                  (exchangeQuota p ≤ heldBy s p →
                    exec (.request p b) s = .next (byteEnd p (refusal .nospace (kept p n s)))) ∧
                  (heldBy s p < exchangeQuota p → lowestFree s ≠ none → r.creditBase ≠ 0 →
                    (s.chan c).credit < 1 + (m.payload.length + 31) / 32 →
                      exec (.request p b) s =
                        .next (byteEnd p (latch p .creditRefused (refusal .budget (kept p n s))))))))))

/-- A POST goes through the checks of R24 without steps 2 and 8. One that passes is debited on a metered channel and joins the
tail of the forward queue with its blocks, with no answer; every refusal is a verdict named after the failed check, and step 9
latches CREDIT_REFUSED for the owner. An admission taken after the refill of the same millisecond leaves the credit at CreditBase (R27,
R29, R30, R31, R33). The model's choices: the verdict BUDGET stands ahead of the NOTICE that
CREDIT_REFUSED makes (log entry 11), and R31 is followed against the worked case (log entry 19). -/
def Obligations.PostAdmittedOrRefused : Prop :=
  ∀ p b s n body, Arrives s p b .post n body →
    let refused (why : Reason) : Result := .next (refusedAs p n why .post (body.take 2) s)
    (readMessage body = none → exec (.post p b) s = refused .malformed) ∧
    ∀ m, readMessage body = some m →
      ((∀ c r, ¬ Allowed s p m true c r) → exec (.post p b) s = refused .illegal) ∧
      ∀ c r, Allowed s p m true c r →
        ((s.chan c).bar = true → exec (.post p b) s = refused .barred) ∧
        ((s.chan c).bar = false →
          (effectiveHold s c = true → exec (.post p b) s = refused .busy) ∧
          (effectiveHold s c = false →
            ((s.link r.peer).state ≠ .up → exec (.post p b) s = refused .absent) ∧
            ((s.link r.peer).state = .up →
              (r.maxOutstanding ≤ (s.chan c).outstanding ∨ 4 ≤ (s.chan c).fwd.length →
                exec (.post p b) s = refused .busy) ∧
              ((s.chan c).outstanding < r.maxOutstanding → (s.chan c).fwd.length < 4 →
                (r.creditBase ≠ 0 → (s.chan c).credit < 1 + (m.payload.length + 31) / 32 →
                  exec (.post p b) s =
                    .next (byteEnd p (latch p .creditRefused (pushPart p
                      { what := .verdict .budget 0x03#8 (body.take 2), block := .charged } (kept p n s))))) ∧
                ((r.creditBase = 0 ∨ 1 + (m.payload.length + 31) / 32 ≤ (s.chan c).credit) →
                  exec (.post p b) s =
                    .next (byteEnd p ((handed p s).setChan c
                      { s.chan c with
                        credit := if r.creditBase = 0 then (s.chan c).credit
                                  else if (s.chan c).lastRefill = some s.time then r.creditBase
                                  else (s.chan c).credit - (1 + (m.payload.length + 31) / 32)
                        fwd := (s.chan c).fwd ++
                          [.post { sender := p, peer := r.peer, label := m.second, kind := m.kind,
                                   payload := m.payload, blocks := n }] })))))))

/-! ## Replies, extension, cancellation -/

/-- A REPLY that matches a FORWARDED entry or a waiting retry, within MaxSize, ends the exchange DELIVERED: the deadline becomes absent,
the request blocks are released (at the end of a forward still in transmission), the reply joins the return queue with the REPLY's
blocks, AutoHold sets own HOLD, and no other exchange or number changes. A malformed one, one that matches no such entry, and one
above MaxSize get the verdicts MALFORMED, STALE and OVERSIZE, and the exchange stays as it was. The body of a REPLY is number, xid,
a kind byte that takes no part, result byte, and 0..1024 bytes of payload (R4, R11, R19, R40, R46, R50 to R52, R161). -/
def Obligations.ReplyHandled : Prop :=
  (∀ body m, readReply body = some m ↔
    ∃ k, body = m.chan :: m.xid :: k :: m.result :: m.payload ∧ m.payload.length ≤ 1024) ∧
  (∀ y b s n body m e, Arrives s y b .reply n body → readReply body = some m → Names s y m.chan m.xid e → Awaits s e →
    m.payload.length ≤ (match recordOf s (s.entry e).chan with | some r => r.maxSize | none => 1024) →
    let x := s.entry e
    let blocks := match x.req with | some r => r.blocks | none => 0
    ∃ u, exec (.reply y b) s = .next (byteEnd y u) ∧
      u.entry e = { x with st := .replying, status := some .delivered, deadline := none, req := none } ∧
      (∀ d, d ≠ e → u.entry d = s.entry d) ∧
      u.chan x.chan =
        { s.chan x.chan with
          retries := (s.chan x.chan).retries.filter (· ≠ e)
          ret := (s.chan x.chan).ret ++
            [{ entry := e, frame := some { result := m.result, payload := m.payload, blocks := n } }]
          ownHold := (s.chan x.chan).ownHold ||
            (x.snap.autoHold && servedBy s x.chan x.requester x.responder) } ∧
      (∀ c, c ≠ x.chan → u.chan c = s.chan c) ∧
      (forwardInFlight s e = false →
        u.chargedTo x.requester = s.chargedTo x.requester - blocks ∧
          ∀ q, q ≠ x.requester → u.chargedTo q = s.chargedTo q) ∧
      (forwardInFlight s e = true → u.charged = s.charged ∧
        ∃ t, (u.arb x.responder).tx = some t ∧ t.source = .forward e (some { port := x.requester, blocks := blocks })) ∧
      (∀ q, (u.arb q).iq = (s.arb q).iq) ∧ u.links.set y (s.link y) = s.links ∧
      u.policy = s.policy ∧ u.session = s.session ∧ u.notices = s.notices ∧ u.draws = s.draws ∧ u.touch = s.touch) ∧
  ∀ y b s n body, Arrives s y b .reply n body →
    let refused (why : Reason) : Result := .next (refusedAs y n why .reply (body.take 2) s)
    (readReply body = none → exec (.reply y b) s = refused .malformed) ∧
    ∀ m, readReply body = some m →
      ((∀ e, ¬ Names s y m.chan m.xid e) → exec (.reply y b) s = refused .stale) ∧
      ∀ e, Names s y m.chan m.xid e →
        (¬ Awaits s e → exec (.reply y b) s = refused .stale) ∧
        (Awaits s e →
          (match recordOf s (s.entry e).chan with | some r => r.maxSize | none => 1024) < m.payload.length →
            exec (.reply y b) s = refused .oversize)

/-- EXTEND: on a FORWARDED entry whose extend count is below MaxExtends the count rises and the deadline moves to now +
ExtendStep where that is later; at MaxExtends and on a waiting retry nothing changes; otherwise the answer is STALE, or MALFORMED
for a body that is not 2 bytes (R55). -/
def Obligations.ExtendHandled : Prop :=
  ∀ y b s n body, Arrives s y b .extend n body →
    let v := release y n (handed y s)
    (body.length ≠ 2 → exec (.extend y b) s = .next (refusedAs y n .malformed .extend (body.take 2) s)) ∧
    ∀ chan xid, body = [chan, xid] →
      ((∀ e, ¬ Names s y chan xid e) → exec (.extend y b) s = .next (refusedAs y n .stale .extend body s)) ∧
      ∀ e, Names s y chan xid e →
        (¬ Awaits s e → exec (.extend y b) s = .next (refusedAs y n .stale .extend body s)) ∧
        ((s.entry e).st = .queued → (s.entry e).fwdOnce = true → exec (.extend y b) s = .next (byteEnd y v)) ∧
        ((s.entry e).st = .forwarded → (s.entry e).snap.maxExtends ≤ (s.entry e).extCount →
          exec (.extend y b) s = .next (byteEnd y v)) ∧
        ((s.entry e).st = .forwarded → (s.entry e).extCount < (s.entry e).snap.maxExtends →
          ∀ d, (s.entry e).deadline = some d →
            exec (.extend y b) s =
              .next (byteEnd y (v.setEntry e
                { s.entry e with
                  extCount := (s.entry e).extCount + 1
                  deadline := some (if later (after s.time (s.entry e).snap.extendStep) d
                    then after s.time (s.entry e).snap.extendStep else d) })))

/-- CANCEL: a live request of the port with that tag that is QUEUED or FORWARDED ends CANCELLED: it leaves its queue, its blocks
and the CANCEL's are released (a forward in transmission keeps the request's), its reply joins the return queue, and a WITHDRAW
is made where it had been forwarded and the responder is UP. Otherwise the answer is NOT_FOUND, or MALFORMED for a body that is
not 1 byte (R40, R45, R60, R63, R64). -/
def Obligations.CancelHandled : Prop :=
  ∀ p b s n body, Arrives s p b .cancel n body →
    (body.length ≠ 1 → exec (.cancel p b) s = .next (refusedAs p n .malformed .cancel (body.take 1) s)) ∧
    ∀ tag, body = [tag] →
      (entryOfTag s p tag = none → exec (.cancel p b) s = .next (refusedAs p n .notFound .cancel body s)) ∧
      ∀ e, entryOfTag s p tag = some e →
        let x := s.entry e
        let blocks := match x.req with | some r => r.blocks | none => 0
        let told := x.fwdOnce = true ∧ (s.link x.responder).state = .up
        (x.st = .replying → exec (.cancel p b) s = .next (refusedAs p n .notFound .cancel body s)) ∧
        (x.st = .queued ∨ x.st = .forwarded →
          ∃ u, exec (.cancel p b) s = .next (byteEnd p u) ∧
            (told → u.entry e = { x with st := .replying, status := some .cancelled, deadline := none, req := none,
                                         withdraw := true }) ∧
            (¬ told → u.entry e = { x with st := .replying, status := some .cancelled, deadline := none, req := none }) ∧
            (∀ d, d ≠ e → u.entry d = s.entry d) ∧
            u.chan x.chan =
              { s.chan x.chan with
                fwd := (s.chan x.chan).fwd.filter (· ≠ .request e)
                retries := (s.chan x.chan).retries.filter (· ≠ e)
                ret := (s.chan x.chan).ret ++ [{ entry := e, frame := none }] } ∧
            (∀ c, c ≠ x.chan → u.chan c = s.chan c) ∧
            (told → (u.arb x.responder).iq =
              (s.arb x.responder).iq ++ [{ what := .withdraw e, block := .pool }]) ∧
            (∀ q, ¬ (told ∧ q = x.responder) → (u.arb q).iq = (s.arb q).iq) ∧
            (forwardInFlight s e = false → u.chargedTo p = s.chargedTo p - n - blocks) ∧
            (forwardInFlight s e = true → u.chargedTo p = s.chargedTo p - n ∧
              ∃ t, (u.arb x.responder).tx = some t ∧ t.source = .forward e (some { port := p, blocks := blocks })) ∧
            (∀ q, q ≠ p → u.chargedTo q = s.chargedTo q) ∧
            u.policy = s.policy ∧ u.session = s.session ∧ u.notices = s.notices ∧ u.touch = s.touch)

/-! ## Draw frames -/

/-- A DRAW_WINDOW or DRAW_PIXELS joins the tail of its source's draw queue with its blocks, a window clamped to the panel; the
refusals come in the order NOT_PERMITTED (from RD), MALFORMED, BADWINDOW, FULL. A DRAW_WINDOW is x0, x1, y0 and y1, 16 bits each,
and an order byte, 0 for ROW and 1 for COLUMN; a DRAW_PIXELS is its pixels, 16 bits each, low byte first (R124, R125, R126, R127,
R162). -/
def Obligations.DrawFramesQueued : Prop :=
  (∀ body w, readWindow body = some w ↔
    ∃ a a' c c' d d' e e' o : Byte, body = [a, a', c, c', d, d', e, e', o] ∧
      w.rect = ⟨min (a.toNat + 256 * a'.toNat) 319, min (c.toNat + 256 * c'.toNat) 319,
                min (d.toNat + 256 * d'.toNat) 239, min (e.toNat + 256 * e'.toNat) 239⟩ ∧
      (o = 0#8 ∧ w.order = .row ∨ o = 1#8 ∧ w.order = .column)) ∧
  (halves [] = [] ∧ ∀ lo hi rest, halves (lo :: hi :: rest) = (hi ++ lo) :: halves rest) ∧
  ∀ p b s n body,
    (Arrives s p b .drawWindow n body →
      let refused (why : Reason) : Result := .next (refusedAs p n why .drawWindow [] s)
      (p = .rd → exec (.drawWindow p b) s = refused .notPermitted) ∧
      ∀ x, screenOf p = some x →
        (readWindow body = none → exec (.drawWindow p b) s = refused .malformed) ∧
        ∀ w, readWindow body = some w →
          w.rect.x1 ≤ 319 ∧ w.rect.y1 ≤ 239 ∧
          (w.rect.x1 < w.rect.x0 ∨ w.rect.y1 < w.rect.y0 → exec (.drawWindow p b) s = refused .badWindow) ∧
          (w.rect.x0 ≤ w.rect.x1 → w.rect.y0 ≤ w.rect.y1 →
            (4 ≤ (s.draw x).queue.length → exec (.drawWindow p b) s = refused .full) ∧
            ((s.draw x).queue.length < 4 →
              exec (.drawWindow p b) s =
                .next (byteEnd p ((handed p s).setDraw x
                  { s.draw x with queue := (s.draw x).queue ++ [.window w n] }))))) ∧
    (Arrives s p b .drawPixels n body →
      let refused (why : Reason) : Result := .next (refusedAs p n why .drawPixels [] s)
      (p = .rd → exec (.drawPixels p b) s = refused .notPermitted) ∧
      ∀ x, screenOf p = some x →
        (body.length = 0 ∨ body.length % 2 = 1 ∨ 1024 < body.length →
          exec (.drawPixels p b) s = refused .malformed) ∧
        (0 < body.length → body.length % 2 = 0 → body.length ≤ 1024 →
          (4 ≤ (s.draw x).queue.length → exec (.drawPixels p b) s = refused .full) ∧
          ((s.draw x).queue.length < 4 →
            exec (.drawPixels p b) s =
              .next (byteEnd p ((handed p s).setDraw x
                { s.draw x with queue := (s.draw x).queue ++ [.pixels (halves body) n] })))))

/-! ## Control requests -/

/-- The checks of R173, in order: an unknown request code is answered UNKNOWN, a PD request from AD or RD DENIED, a wrong number of
argument bytes BADARG; only then are the request's own checks made, on the state with the frame's blocks but the first released, and
the CONTROL_REPLY is the last frame the event places. A body shorter than 2 bytes gets the verdict MALFORMED. The request codes, the
number of argument bytes and which requests only PD may make are those of the table (R171, R172, R173). -/
def Obligations.ControlChecks : Prop :=
  (∀ row ∈ ([(0x01#8, .queryLink, 1, false), (0x02#8, .queryChannel, 2, false), (0x03#8, .querySession, 0, false),
      (0x04#8, .queryNotices, 0, false), (0x05#8, .setNoticeMask, 2, false), (0x10#8, .hold, 1, false),
      (0x11#8, .release, 1, false), (0x12#8, .setBar, 1, true), (0x13#8, .clearBar, 1, true),
      (0x20#8, .writeChannel, 22, true), (0x21#8, .removeChannel, 2, true), (0x22#8, .writeSettings, 8, true),
      (0x23#8, .copyArea, 1, true), (0x24#8, .activate, 1, true), (0x25#8, .fullClear, 0, true),
      (0x30#8, .openSession, 14, true), (0x31#8, .closeSession, 4, true), (0x32#8, .touchRestart, 0, true)] :
        List (Byte × Ctl × Nat × Bool)),
    ctlOf row.1 = some row.2.1 ∧ row.2.1.argBytes = row.2.2.1 ∧ row.2.1.pdOnly = row.2.2.2) ∧
  ∀ p b s n,
    (∀ body, Arrives s p b .control n body → body.length < 2 →
      exec (.controlMalformed p b) s = .next (refusedAs p n .malformed .control body s)) ∧
    (∀ code : Byte, ctlOf code = none ↔
      let k := code.toNat
      k = 0x00 ∨ (0x06 ≤ k ∧ k ≤ 0x0F) ∨ (0x14 ≤ k ∧ k ≤ 0x1F) ∨ (0x26 ≤ k ∧ k ≤ 0x2F) ∨ 0x33 ≤ k) ∧
    ∀ code tag args, Asks s p b n code tag args →
      let reply (st : CtlStatus) : Result := .next (answered p (.controlReply code tag st []) (kept p n s))
      (ctlOf code = none → exec (.unknownRequest p b) s = reply .unknown) ∧
      ∀ c, ctlOf code = some c →
        (c.pdOnly = true → p ≠ .pd → exec (ctlCommand c p b) s = reply .denied) ∧
        ((c.pdOnly = true → p = .pd) → args.length ≠ c.argBytes → exec (ctlCommand c p b) s = reply .badarg) ∧
        ((c.pdOnly = true → p = .pd) → args.length = c.argBytes →
          ∃ st res u, exec (ctlCommand c p b) s = .next (answered p (.controlReply code tag st res) u) ∧
            (st ≠ .done → res = [] ∧ u = kept p n s))

/-- The queries change nothing but QUERY_NOTICES, and answer with the bytes of the manual: QUERY_LINK with the named link's state,
error count, charge, exchanges held and settings, and for PD the touch link; QUERY_CHANNEL with the record and the runtime;
QUERY_SESSION with the session as each port may see it. The codes and the layout of the fields are those of the manual, the 20 record
bytes among them (R8, R42, R92, R121, R163, R174 to R177). -/
def Obligations.QueriesAnswered : Prop :=
  AnswersLaidOut ∧
  ∀ p b s n code tag args, Asks s p b n code tag args →
    let w := kept p n s
    let reply (st : CtlStatus) (res : List Byte) : Result := .next (answered p (.controlReply code tag st res) w)
    (code = 0x01#8 → args.length = 1 →
      (portOf (byteAt args 0) = none → exec (.queryLink p b) s = reply .badarg []) ∧
      ∀ q, portOf (byteAt args 0) = some q →
        (p ≠ .pd → q ≠ p → exec (.queryLink p b) s = reply .denied []) ∧
        (p = .pd ∨ q = p →
          exec (.queryLink p b) s = reply .done
            ([(s.link q).state.code] ++ leNat (s.link q).errors ++
              [countByte (w.chargedTo q), countByte (heldBy s q), modeCode (settingsOf s q).mode,
               countByte (settingsOf s q).stallLimit] ++
              (if p = .pd then [s.touch.link.code, countByte s.touch.failures] else [])))) ∧
    (code = 0x02#8 → args.length = 2 →
      let runtime (c : Chn) : List Byte :=
        leNat (s.chan c).credit ++
          [flagByte (s.chan c).ownHold (forcedHold s c) (s.chan c).bar, countByte (s.chan c).outstanding,
           countByte (s.chan c).fwd.length, countByte (s.chan c).retries.length, countByte (s.chan c).ret.length]
      let read (r : Option ChannelRecord) (c : Chn) : List Byte :=
        (match r with | some r => 1#8 :: recordBytes r | none => [0#8]) ++ runtime c
      ((∀ c : Chn, (byteAt args 0).toNat ≠ c.val + 1) →
        exec (.queryChannel p b) s = reply (if p = .pd then .badarg else .denied) []) ∧
      ∀ c : Chn, (byteAt args 0).toNat = c.val + 1 →
        (p = .pd →
          (byteAt args 1 = 0#8 → exec (.queryChannel p b) s = reply .done (read (recordOf s c) c)) ∧
          (∀ i, areaOf (byteAt args 1) = some i →
            exec (.queryChannel p b) s = reply .done (read ((areaOfId s i).recs.get c) c)) ∧
          (3 ≤ (byteAt args 1).toNat → exec (.queryChannel p b) s = reply .badarg [])) ∧
        (p ≠ .pd →
          (∀ r, recordOf s c = some r → r.owner = p ∨ r.peer = p →
            exec (.queryChannel p b) s = reply .done (read (some r) c)) ∧
          ((∀ r, recordOf s c = some r → r.owner ≠ p ∧ r.peer ≠ p) →
            exec (.queryChannel p b) s = reply .denied []))) ∧
    (code = 0x03#8 → args = [] →
      let q := s.session
      let head : List Byte :=
        [q.state.code, boolByte q.secureInd, (match q.record with | some r => boolByte r.capture | none => 2#8),
         areaCode s.policy.active, (match s.policy.pendingSwitch with | some i => areaCode i | none => 0#8)]
      (p ≠ .pd → exec (.querySession p b) s = reply .done head) ∧
      (p = .pd → q.state = .idle → q.record = none →
        exec (.querySession p b) s = reply .done (head ++ List.replicate 23 0#8)) ∧
      (p = .pd → ∀ r, q.record = some r →
        let fixed := head ++ rectBytes r.rect ++ leNat r.limit ++ colourBytes r.openColour ++ closeBytes r.closeReq
        (∀ t, q.state = .active → q.limitAt = some t →
          exec (.querySession p b) s = reply .done (fixed ++ leTime (t - s.time) ++ leNat 0)) ∧
        (∀ f, q.state = .closing → r.fill = some f →
          exec (.querySession p b) s = reply .done (fixed ++ leTime 0#32 ++ leNat (f.last + 1 - f.next))) ∧
        (q.state = .opening → exec (.querySession p b) s = reply .done (fixed ++ leTime 0#32 ++ leNat 0))))

/-- QUERY_NOTICES answers the pending set and the mask, empties the set, clears repeat and removes a waiting NOTICE, keeping the
order of the other frames; a NOTICE in transmission goes on, and none follows its completion (R184). -/
def Obligations.QueryNoticesTakesSet : Prop :=
  ∀ p b s n code tag, Asks s p b n code tag [] → code = 0x04#8 →
    let w := kept p n s
    let nt := s.notice p
    ∃ u, exec (.queryNotices p b) s =
        .next (answered p (.controlReply code tag .done (leHalf nt.set ++ leHalf nt.mask)) u) ∧
      (nt.st = .waiting →
        u = (w.setNotice p { mask := nt.mask, set := 0#16, st := .none, again := false }).setArb p
              { w.arb p with iq := (s.arb p).iq.filter (fun f => f.what ≠ .notice) }) ∧
      (nt.st ≠ .waiting → u = w.setNotice p { mask := nt.mask, set := 0#16, st := nt.st, again := false }) ∧
      ∀ v, v.notice p = u.notice p → nt.st = .sending →
        noticeSent p v = v.setNotice p { mask := nt.mask, set := 0#16, st := .none, again := false }

/-- Latching a condition puts its place into the port's set. One that was pending already, or that the mask does not select, does
nothing more; else a NOTICE joins the tail of the port's part frames and waits where the state is NONE, nothing more happens in WAITING,
and repeat becomes yes in SENDING. A condition latched for all is latched for each port. SET_NOTICE_MASK replaces the mask, with 0 in
the places beyond the nine conditions, and answers the mask as stored. A NOTICE is made, ahead of the CONTROL_REPLY, exactly where the
NOTICE state is NONE and the new mask selects a pending condition that the old one did not; set, repeat and a waiting NOTICE stay (R164,
R181, R182, R183). -/
def Obligations.SetNoticeMaskReplaces : Prop :=
  ([Condition.sessionChange, .sessionExpired, .areaSwitched, .linkChange, .creditRefused, .released, .barred, .touchLost,
      .touchFault].map Condition.bit =
    [0x0001#16, 0x0002#16, 0x0004#16, 0x0008#16, 0x0010#16, 0x0020#16, 0x0040#16, 0x0080#16, 0x0100#16] ∧
    ∀ h k, hasCondition h k = true ↔ h &&& k.bit ≠ 0#16) ∧
  (∀ p k s,
    let nt := s.notice p
    let taken := { nt with set := nt.set ||| k.bit }
    (nt.set &&& k.bit ≠ 0#16 → latch p k s = s) ∧
    (nt.set &&& k.bit = 0#16 → nt.mask &&& k.bit = 0#16 → latch p k s = s.setNotice p taken) ∧
    (nt.set &&& k.bit = 0#16 → nt.mask &&& k.bit ≠ 0#16 →
      (nt.st = .none →
        latch p k s =
          (s.setNotice p { taken with st := .waiting }).setArb p
            { s.arb p with iq := (s.arb p).iq ++ [{ what := .notice, block := .pool }] }) ∧
      (nt.st = .waiting → latch p k s = s.setNotice p taken) ∧
      (nt.st = .sending → latch p k s = s.setNotice p { taken with again := true }))) ∧
  (∀ k s, latchAll k s = latch .rd k (latch .pd k (latch .ad k s))) ∧
  ∀ p b s n code tag lo hi, Asks s p b n code tag [lo, hi] → code = 0x05#8 →
    let w := kept p n s
    let nt := s.notice p
    let m : Half := (hi ++ lo) &&& 0x01FF#16
    ∃ u, exec (.setNoticeMask p b) s = .next (answered p (.controlReply code tag .done (leHalf m)) u) ∧
      (nt.st = .none → m &&& ~~~ nt.mask &&& nt.set ≠ 0#16 →
        u = (w.setNotice p { nt with mask := m, st := .waiting }).setArb p
              { w.arb p with iq := (s.arb p).iq ++ [{ what := .notice, block := .pool }] }) ∧
      (nt.st ≠ .none ∨ m &&& ~~~ nt.mask &&& nt.set = 0#16 → u = w.setNotice p { nt with mask := m })

/-- HOLD and RELEASE: BADARG for a number outside 1..48 or absent, DENIED from a port that is neither the number's Peer nor PD, else
own HOLD is set or cleared and the answer says whether forced HOLD is set; a RELEASE that clears the effective HOLD latches RELEASED
for the owner, ahead of the CONTROL_REPLY (R1, R9, R13, R178). -/
def Obligations.HoldAndRelease : Prop :=
  ∀ p b s n code tag a, Asks s p b n code tag [a] →
    let w := kept p n s
    let reply (st : CtlStatus) (res : List Byte) (u : State) : Result :=
      .next (answered p (.controlReply code tag st res) u)
    let both (r : Result) : Prop :=
      (code = 0x10#8 → exec (.hold p b) s = r) ∧ (code = 0x11#8 → exec (.release p b) s = r)
    ((∀ c : Chn, a.toNat ≠ c.val + 1) → both (reply .badarg [] w)) ∧
    ∀ c : Chn, a.toNat = c.val + 1 →
      (recordOf s c = none → both (reply .badarg [] w)) ∧
      ∀ r, recordOf s c = some r →
        let forced := r.quietInSession = true ∧ s.session.state ≠ .idle
        (p ≠ r.peer → p ≠ .pd → both (reply .denied [] w)) ∧
        (p = r.peer ∨ p = .pd →
          (code = 0x10#8 →
            (forced → exec (.hold p b) s = reply .done [1#8] (w.setChan c { s.chan c with ownHold := true })) ∧
            (¬ forced → exec (.hold p b) s = reply .done [0#8] (w.setChan c { s.chan c with ownHold := true }))) ∧
          (code = 0x11#8 →
            (forced →
              exec (.release p b) s = reply .done [1#8] (w.setChan c { s.chan c with ownHold := false })) ∧
            (¬ forced → (s.chan c).ownHold = false →
              exec (.release p b) s = reply .done [0#8] (w.setChan c { s.chan c with ownHold := false })) ∧
            (¬ forced → (s.chan c).ownHold = true →
              exec (.release p b) s =
                reply .done [0#8] (latch r.owner .released (w.setChan c { s.chan c with ownHold := false })))))

/-- SET_BAR on a present channel whose BAR is clear sets it, latches BARRED for the owner and ends the queued work: waiting retries,
then queued requests, end BARRED into the return queue, with a WITHDRAW for a retry whose responder is UP, and each queued post gets
the verdict BARRED; a second SET_BAR changes nothing. CLEAR_BAR clears BAR alone. BADARG for an absent number (R1, R14, R15, R63,
R179). -/
def Obligations.BarRequests : Prop :=
  ∀ b s n code tag a, Asks s .pd b n code tag [a] →
    let w := kept .pd n s
    let reply (st : CtlStatus) (u : State) : Result := .next (answered .pd (.controlReply code tag st []) u)
    ((∀ c : Chn, a.toNat = c.val + 1 → recordOf s c = none) →
      (code = 0x12#8 → exec (.setBar .pd b) s = reply .badarg w) ∧
      (code = 0x13#8 → exec (.clearBar .pd b) s = reply .badarg w)) ∧
    ∀ (c : Chn) r, a.toNat = c.val + 1 → recordOf s c = some r →
      (code = 0x13#8 → exec (.clearBar .pd b) s = reply .done (w.setChan c { s.chan c with bar := false })) ∧
      (code = 0x12#8 → (s.chan c).bar = true → exec (.setBar .pd b) s = reply .done w) ∧
      (code = 0x12#8 → (s.chan c).bar = false → ExchangesOk s →
        let ch := s.chan c
        let ended := ch.retries ++ requestsOf ch.fwd
        ∃ u, exec (.setBar .pd b) s = reply .done u ∧ Latched s u (fun p => if p = r.owner then 0x0040#16 else 0#16) ∧
          u.chan c = { ch with bar := true, fwd := [], retries := [],
                               ret := ch.ret ++ ended.map (fun e => { entry := e, frame := none }) } ∧
          (∀ d, d ≠ c → u.chan d = s.chan d) ∧ (∀ e, e ∉ ended → u.entry e = s.entry e) ∧
          (∀ e, e ∈ ended →
            (u.entry e).st = .replying ∧ (u.entry e).status = some .barred ∧ (u.entry e).req = none ∧ Withdrawn s u e) ∧
          (∀ m, .post m ∈ ch.fwd →
            { what := .verdict .barred 0x03#8 [chnByte c, m.label], block := .charged } ∈ (u.arb m.sender).iq) ∧
          u.policy = s.policy ∧ u.session = s.session)

/-- The policy writes act on the inactive area alone: WRITE_CHANNEL stores the record with its fields in range, REMOVE_CHANNEL empties
the position, WRITE_SETTINGS replaces the settings and answers them as stored, COPY_AREA copies the whole active area. BADARG for an
unknown area, INUSE for the active area, BADARG for a bad number, record or mode; a refusal changes nothing. The arguments of a
WRITE_CHANNEL are read as the manual lays them out (R2, R87 to R91, R174). -/
def Obligations.PolicyWrites : Prop :=
  (∀ args r, readRecord args = some r ↔
    let v (i : Nat) : Nat := (args.getD i 0#8).toNat
    let w (i : Nat) : Nat := v i + 256 * v (i + 1)
    r.owner ≠ r.peer ∧ v 2 = (match r.owner with | .ad => 1 | .pd => 2 | .rd => 3) ∧
      v 3 = (match r.peer with | .ad => 1 | .pd => 2 | .rd => 3) ∧
      v 4 = (match r.cls with | .payment => 0 | .radio => 1 | .app => 2) ∧
      v 5 = (match r.types with | .requests => 0 | .posts => 1 | .both => 2) ∧
      r.kinds.toNat = w 6 ∧ r.maxSize = w 8 ∧ r.creditBase = w 10 ∧ r.refillPeriod = v 12 ∧ r.gap = v 13 ∧
      r.maxOutstanding = v 14 ∧ r.responseLimit = w 15 ∧ r.extendStep = w 17 ∧ r.maxExtends = v 19 ∧ r.retries = v 20 ∧
      r.autoHold = (v 21).testBit 0 ∧ r.barOnTimeout = (v 21).testBit 1 ∧ r.quietInSession = (v 21).testBit 2) ∧
  ∀ b s n code tag args, Asks s .pd b n code tag args →
    let w := kept .pd n s
    let reply (st : CtlStatus) (res : List Byte) (u : State) : Result :=
      .next (answered .pd (.controlReply code tag st res) u)
    let all (r : Result) : Prop :=
      (code = 0x20#8 → args.length = 22 → exec (.writeChannel .pd b) s = r) ∧
      (code = 0x21#8 → args.length = 2 → exec (.removeChannel .pd b) s = r) ∧
      (code = 0x22#8 → args.length = 8 → exec (.writeSettings .pd b) s = r) ∧
      (code = 0x23#8 → args.length = 1 → exec (.copyArea .pd b) s = r)
    (areaOf (byteAt args 0) = none → all (reply .badarg [] w)) ∧
    (areaOf (byteAt args 0) = some s.policy.active → all (reply .inuse [] w)) ∧
    ∀ i, areaOf (byteAt args 0) = some i → i ≠ s.policy.active →
      let old := areaOfId s i
      let writes (x : Result) (res : List Byte) (v : Area) : Prop :=
        ∃ u, x = reply .done res u ∧ areaOfId u i = v ∧ activeArea u = activeArea s ∧
          u.policy.active = s.policy.active ∧ u.policy.pendingSwitch = s.policy.pendingSwitch ∧
          u = { w with policy := u.policy }
      (code = 0x20#8 → args.length = 22 →
        ((∀ c : Chn, (byteAt args 1).toNat ≠ c.val + 1) ∨ readRecord args = none →
          exec (.writeChannel .pd b) s = reply .badarg [] w) ∧
        ∀ (c : Chn) r, (byteAt args 1).toNat = c.val + 1 → readRecord args = some r →
          r.owner ≠ r.peer ∧
          writes (exec (.writeChannel .pd b) s) []
            { old with
              recs := old.recs.set c.val (some
                { r with
                  responseLimit := max 1 r.responseLimit, extendStep := max 1 r.extendStep,
                  maxOutstanding := min 8 (max 1 r.maxOutstanding), retries := min 2 r.retries,
                  maxExtends := min 15 r.maxExtends, maxSize := min 1024 r.maxSize,
                  refillPeriod := max 1 r.refillPeriod, creditBase := min 4095 r.creditBase }) c.isLt }) ∧
      (code = 0x21#8 → args.length = 2 →
        ((∀ c : Chn, (byteAt args 1).toNat ≠ c.val + 1) →
          exec (.removeChannel .pd b) s = reply .badarg [] w) ∧
        ∀ c : Chn, (byteAt args 1).toNat = c.val + 1 →
          writes (exec (.removeChannel .pd b) s) [] { old with recs := old.recs.set c.val none c.isLt }) ∧
      (code = 0x22#8 → args.length = 8 →
        (modeOf (byteAt args 1) = none ∨ modeOf (byteAt args 3) = none ∨ modeOf (byteAt args 5) = none →
          exec (.writeSettings .pd b) s = reply .badarg [] w) ∧
        ∀ ma mp mr, modeOf (byteAt args 1) = some ma → modeOf (byteAt args 3) = some mp →
          modeOf (byteAt args 5) = some mr →
          let la := max 1 (byteAt args 2).toNat
          let lp := max 1 (byteAt args 4).toNat
          let lr := max 1 (byteAt args 6).toNat
          let rows := min 32 (byteAt args 7).toNat
          writes (exec (.writeSettings .pd b) s)
            [byteAt args 1, countByte la, byteAt args 3, countByte lp, byteAt args 5, countByte lr, countByte rows]
            { old with settings := ⟨⟨ma, la⟩, ⟨mp, lp⟩, ⟨mr, lr⟩⟩, bannerRows := rows }) ∧
      (code = 0x23#8 → args.length = 1 → writes (exec (.copyArea .pd b) s) [] (activeArea s))

/-- ACTIVATE: BADARG for an unknown area; of the active area it withdraws a pending switch and answers "no switch"; of the inactive
area it is taken at once in IDLE, and deferred otherwise, a pending switch already present staying as it was (R93, R94). -/
def Obligations.ActivateHandled : Prop :=
  ∀ b s n code tag a, Asks s .pd b n code tag [a] → code = 0x24#8 →
    let w := kept .pd n s
    let reply (st : CtlStatus) (res : List Byte) (u : State) : Result :=
      .next (answered .pd (.controlReply code tag st res) u)
    (areaOf a = none → exec (.activate .pd b) s = reply .badarg [] w) ∧
    ∀ i, areaOf a = some i →
      (i = s.policy.active →
        exec (.activate .pd b) s = reply .done [0#8] { w with policy := { s.policy with pendingSwitch := none } }) ∧
      (i ≠ s.policy.active → s.session.state = .idle →
        exec (.activate .pd b) s = reply .done [1#8] (takeSwitch i w)) ∧
      (i ≠ s.policy.active → s.session.state ≠ .idle → s.policy.pendingSwitch = none →
        exec (.activate .pd b) s =
          reply .done [2#8] { w with policy := { s.policy with pendingSwitch := some i } }) ∧
      (i ≠ s.policy.active → s.session.state ≠ .idle → s.policy.pendingSwitch ≠ none →
        exec (.activate .pd b) s = reply .done [2#8] w)

/-- An area switch: the selector changes and the areas stay; each number's credit, refill timer, last forward time, own HOLD and BAR
follow its case (kept, changed, new, removed, idle); queued work that the new record does not allow ends REVOKED and the rest stays
in its order, a WITHDRAW tells an UP responder of an ended retry, and a post discarded gets the verdict REVOKED; FORWARDED and
REPLYING exchanges, outstanding counts and the replies waiting stay; the rotation pointers become absent and AREA_SWITCHED is latched
for all three ports (R32, R33, R63, R81, R95 to R98). That no refill before the switch acts on admissions after it is log entry 19: the
model's choice. -/
def Obligations.SwitchTaken : Prop :=
  ∀ s i, ExchangesOk s →
    let u := takeSwitch i s
    let before := activeArea s
    let after' := areaOfId s i
    let timer (r : ChannelRecord) : Option Time :=
      if r.creditBase = 0 then none else some (after s.time (10 * r.refillPeriod))
    let fresh (c : Chn) (a : ChannelRecord) : Prop :=
      (u.chan c).credit = a.creditBase ∧ (u.chan c).refillAt = timer a ∧ (u.chan c).lastForward = none ∧
        (u.chan c).ownHold = false ∧ (u.chan c).bar = false
    u.policy = { s.policy with active := i, pendingSwitch := none } ∧ u.time = s.time ∧ u.session = s.session ∧
    u.links = s.links ∧ u.draws = s.draws ∧ u.run = s.run ∧ u.touch = s.touch ∧
    (∀ p, (u.arb p).ptr3 = ⟨none, none, none⟩ ∧ (u.arb p).ptr4 = ⟨none, none, none⟩) ∧
    Latched s u (fun _ => 0x0004#16) ∧
    (∀ e, (s.entry e).st = .forwarded ∨ (s.entry e).st = .replying → u.entry e = s.entry e) ∧
    ∀ c, (u.chan c).outstanding = (s.chan c).outstanding ∧ (u.chan c).lastRefill = none ∧
      (∃ more, (u.chan c).ret = (s.chan c).ret ++ more) ∧
      (u.chan c).retries = (s.chan c).retries.filter (requestAllowed s (after'.recs.get c)) ∧
      (u.chan c).fwd = (s.chan c).fwd.filter (fun x =>
        match x with
        | .request e => requestAllowed s (after'.recs.get c) e
        | .post m => recordAllows (after'.recs.get c) true m.sender m.peer m.kind m.payload.length) ∧
      (∀ e, e ∈ (s.chan c).retries ∨ .request e ∈ (s.chan c).fwd →
        requestAllowed s (after'.recs.get c) e = false →
          (u.entry e).st = .replying ∧ (u.entry e).status = some .revoked ∧ (u.entry e).req = none ∧
            Withdrawn s u e) ∧
      (∀ m, .post m ∈ (s.chan c).fwd →
        recordAllows (after'.recs.get c) true m.sender m.peer m.kind m.payload.length = false →
          { what := .verdict .revoked 0x03#8 [chnByte c, m.label], block := .charged } ∈ (u.arb m.sender).iq) ∧
      (∀ b a, before.recs.get c = some b → after'.recs.get c = some a →
        (b.owner = a.owner → b.peer = a.peer →
          (u.chan c).lastForward = (s.chan c).lastForward ∧ (u.chan c).ownHold = (s.chan c).ownHold ∧
            (u.chan c).bar = (s.chan c).bar ∧
            (a.creditBase = 0 → (u.chan c).credit = 0 ∧ (u.chan c).refillAt = none) ∧
            (a.creditBase ≠ 0 → b.creditBase = 0 →
              (u.chan c).credit = a.creditBase ∧ (u.chan c).refillAt = timer a) ∧
            (a.creditBase ≠ 0 → b.creditBase ≠ 0 →
              (u.chan c).credit = min (s.chan c).credit a.creditBase ∧
                (u.chan c).refillAt = if a.refillPeriod = b.refillPeriod then (s.chan c).refillAt else timer a)) ∧
        (b.owner ≠ a.owner ∨ b.peer ≠ a.peer → fresh c a)) ∧
      (∀ a, before.recs.get c = none → after'.recs.get c = some a → fresh c a) ∧
      (∀ b, before.recs.get c = some b → after'.recs.get c = none →
        (u.chan c).credit = 0 ∧ (u.chan c).refillAt = none ∧ (u.chan c).lastForward = none ∧
          (u.chan c).ownHold = false ∧ (u.chan c).bar = false) ∧
      (before.recs.get c = none → after'.recs.get c = none →
        (u.chan c).credit = (s.chan c).credit ∧ (u.chan c).refillAt = (s.chan c).refillAt ∧
          (u.chan c).lastForward = (s.chan c).lastForward ∧ (u.chan c).ownHold = (s.chan c).ownHold ∧
          (u.chan c).bar = (s.chan c).bar)

/-- FULL_CLEAR in IDLE brings both areas to their defaults with area A active, every number to its initial runtime but for the replies
still to be sent, ends every QUEUED and FORWARDED exchange REVOKED, with a WITHDRAW to an UP responder where it had been forwarded,
discards every queued post with the verdict REVOKED, empties the rotation pointers, latches AREA_SWITCHED for all, and
leaves links, time, session, display and touch as they were; out of IDLE it is answered BUSY (R5, R21, R63, R69, R81, R100, R101). The
latest refill time, the model's own field, becomes absent (log entry 19). -/
def Obligations.FullClearHandled : Prop :=
  ∀ b s n code tag, Asks s .pd b n code tag [] → code = 0x25#8 →
    let w := kept .pd n s
    (s.session.state ≠ .idle →
      exec (.fullClear .pd b) s = .next (answered .pd (.controlReply code tag .busy []) w)) ∧
    (s.session.state = .idle → ExchangesOk s →
      ∃ u, exec (.fullClear .pd b) s = .next (answered .pd (.controlReply code tag .done []) u) ∧
        u.policy = State.reset.policy ∧ u.time = s.time ∧ u.links = w.links ∧ u.session = s.session ∧
        u.draws = s.draws ∧ u.run = s.run ∧ u.touch = s.touch ∧
        (∀ p, (u.arb p).ptr3 = ⟨none, none, none⟩ ∧ (u.arb p).ptr4 = ⟨none, none, none⟩) ∧
        Latched s u (fun _ => 0x0004#16) ∧
        (∀ c, (u.chan c).credit = 0 ∧ (u.chan c).ownHold = false ∧ (u.chan c).bar = false ∧
          (u.chan c).outstanding = (s.chan c).outstanding ∧ (u.chan c).fwd = [] ∧ (u.chan c).retries = [] ∧
          (u.chan c).lastForward = none ∧ (u.chan c).refillAt = none ∧ (u.chan c).lastRefill = none ∧
          ∃ more, (u.chan c).ret = (s.chan c).ret ++ more) ∧
        (∀ e, (s.entry e).st = .queued ∨ (s.entry e).st = .forwarded →
          (u.entry e).st = .replying ∧ (u.entry e).status = some .revoked ∧ (u.entry e).deadline = none ∧
            (u.entry e).req = none ∧ (u.entry e).tag = (s.entry e).tag ∧ Withdrawn s u e) ∧
        (∀ c m, .post m ∈ (s.chan c).fwd →
          { what := .verdict .revoked 0x03#8 [chnByte c, m.label], block := .charged } ∈ (u.arb m.sender).iq) ∧
        (∀ e, (s.entry e).st = .replying ∨ (s.entry e).st = .free → u.entry e = s.entry e))

/-! ## The session -/

/-- OPEN_SESSION: BUSY out of IDLE, BADARG for an inverted rectangle; else the record is stored and SESSION_CHANGE latched for all, and
the session becomes OPENING while an AD run is in progress, or ACTIVE at once, with SECURE_IND on and the limit timer started; the
answer gives the values as stored and whether it is ACTIVE (R106, R107, R109). -/
def Obligations.OpenSessionHandled : Prop :=
  ∀ b s n code tag args, Asks s .pd b n code tag args → code = 0x30#8 → args.length = 14 →
    let w := kept .pd n s
    let r := openRecord args
    let reply (st : CtlStatus) (res : List Byte) (u : State) : Result :=
      .next (answered .pd (.controlReply code tag st res) u)
    let stored := leNat r.rect.x0 ++ leNat r.rect.x1 ++ leNat r.rect.y0 ++ leNat r.rect.y1 ++ leNat r.limit
    (s.session.state ≠ .idle → exec (.openSession .pd b) s = reply .busy [] w) ∧
    (s.session.state = .idle → r.rect.x1 < r.rect.x0 ∨ r.rect.y1 < r.rect.y0 →
      exec (.openSession .pd b) s = reply .badarg [] w) ∧
    (s.session.state = .idle → r.rect.x0 ≤ r.rect.x1 → r.rect.y0 ≤ r.rect.y1 →
      (AdRun s →
        exec (.openSession .pd b) s =
          reply .done (stored ++ [0#8])
            (latchAll .sessionChange
              { w with session := { state := .opening, record := some r, secureInd := false, limitAt := none } })) ∧
      (¬ AdRun s →
        exec (.openSession .pd b) s =
          reply .done (stored ++ [1#8])
            (latchAll .sessionChange
              { w with session :=
                  { state := .active, record := some { r with start := some s.time }, secureInd := true,
                    limitAt := some (after s.time (1000 * r.limit)) } })))

/-- CLOSE_SESSION: NOT_OPEN in IDLE, BUSY in CLOSING and with a close request present; in OPENING the close is stored; in ACTIVE
SECURE_IND goes off, the timer stops, SESSION_CHANGE is latched for all, and a blank close goes on to fill the rows of the rectangle
from the first to the last; one without blank is "closed" and returns the session to IDLE with no record: SESSION_CHANGE is latched for
all and RELEASED for the owners of QuietInSession channels with own HOLD clear, and a pending switch is taken with every effect of an
area switch (R13, R99, R112, R113, R114, R116). -/
def Obligations.CloseSessionHandled : Prop :=
  ∀ b s n code tag blank given lo hi, Asks s .pd b n code tag [blank, given, lo, hi] → code = 0x31#8 →
    let w := kept .pd n s
    let k := closeAsked s blank given lo hi
    let reply (st : CtlStatus) (res : List Byte) (u : State) : Result :=
      .next (answered .pd (.controlReply code tag st res) u)
    (s.session.state = .idle → exec (.closeSession .pd b) s = reply .notOpen [] w) ∧
    (s.session.state = .closing → exec (.closeSession .pd b) s = reply .busy [] w) ∧
    ∀ r, s.session.record = some r →
      (s.session.state = .opening → r.closeReq ≠ none → exec (.closeSession .pd b) s = reply .busy [] w) ∧
      (s.session.state = .opening → r.closeReq = none →
        exec (.closeSession .pd b) s =
          reply .done [0#8] { w with session := { s.session with record := some { r with closeReq := some k } } }) ∧
      (s.session.state = .active → ∀ colour, k = .blank colour →
        exec (.closeSession .pd b) s =
          reply .done [1#8]
            (latchAll .sessionChange
              { w with session :=
                  { state := .closing, secureInd := false, limitAt := none,
                    record := some { r with closeReq := none, fill := some ⟨r.rect.y0, r.rect.y1⟩,
                                            fillColour := some colour } } })) ∧
      (s.session.state = .active → k = .plain →
        ∃ v, BackToIdle { w with session := { w.session with secureInd := false, limitAt := none } } v ∧
          exec (.closeSession .pd b) s = reply .done [2#8] (afterIdle v) ∧
          let u := afterIdle v
          u.session = { state := .idle, record := none, secureInd := false, limitAt := none } ∧
          u.policy.pendingSwitch = none ∧
          u.policy.active = (match s.policy.pendingSwitch with | some i => i | none => s.policy.active) ∧
          (∀ p, hasCondition (u.notice p).set .sessionChange = true) ∧
          (∀ c q, recordOf s c = some q → q.quietInSession = true → (s.chan c).ownHold = false →
            hasCondition (u.notice q.owner).set .released = true))

/-! ## Ends of transmissions, timers, the panel link and the touch link -/

/-- The end of a transmission frees the link and takes the effect on the frame's source: a part frame's block, a WITHDRAW, a touch
event, the request blocks of a first forward with Retries 0 or of an ended exchange, and a post's blocks are released; a reply sent
lowers the outstanding count, frees the tag and, with no WITHDRAW outstanding, the entry; a NOTICE sent is followed by another
exactly where repeat was yes and a selected condition is pending. On an SPI link a transmission ends when its last CRC byte has been
clocked out, and at no other byte or command (R7, R40, R45, R53, R64, R66, R74, R83, R154, R155, R182). The model's choices: that
completion follows the byte's own event at once, and on the radio link the command needs CTS or a last byte already started (log
entry 12); a freed entry's fields stand at fixed values (log entry 13); a command whose event cannot take place changes nothing
(log entry 2). -/
def Obligations.TransmissionCompletes : Prop :=
  (∀ p s, (p = .rd ∨ (∀ t, ((settle s).arb p).tx = some t → t.sent < t.body.length + 6) → byteEnd p s = settle s) ∧
    (p ≠ .rd → (∀ t, (s.arb p).tx = some t → t.sent < t.body.length + 6) → exec (.transmissionComplete p) s = .next s) ∧
    (p = .rd → s.radio.cts = false → s.radio.lastStarted = false → exec (.transmissionComplete p) s = .next s)) ∧
  ∀ p s t, (s.arb p).tx = some t → (p = .rd → s.radio.cts = true ∨ s.radio.lastStarted = true) →
    (p ≠ .rd → t.body.length + 6 ≤ t.sent) →
    let v := (s.setArb p { s.arb p with tx := none }).setLink p { s.link p with stall := none, ready := false }
    let ends (u : State) : Prop :=
      exec (.transmissionComplete p) s = .next (settle u) ∧ ∀ w, p ≠ .rd → settle w = s → byteEnd p w = settle u
    let back (h : Option Held) (u : State) : State :=
      match h with
      | some h => u.setCharged h.port (s.chargedTo h.port - h.blocks)
      | none => u
    (t.source = .part .charged → ends (v.setCharged p (s.chargedTo p - 1))) ∧
    (t.source = .part .reserve → ends (v.setLink p { v.link p with reserve := (s.link p).reserve - 1 })) ∧
    (∀ x, t.source = .touch → screenOf p = some x → ends (v.setTouchQueue x (s.touchQueue x).tail)) ∧
    (∀ e, t.source = .withdraw e →
      ((s.entry e).st = .replying → (s.entry e).tag = none →
        ends (v.setEntry e (Entry.freed (s.entry e).gen))) ∧
      ((s.entry e).tag.isSome = true → ends (v.setEntry e { s.entry e with withdraw := false }))) ∧
    (∀ e h, t.source = .reply e h false → (s.entry e).st = .replying →
      let c := (s.entry e).chan
      let w := (back h v).setChan c { s.chan c with outstanding := (s.chan c).outstanding - 1 }
      ((s.entry e).withdraw = false → ends (w.setEntry e (Entry.freed (s.entry e).gen))) ∧
      ((s.entry e).withdraw = true → ends (w.setEntry e { s.entry e with tag := none }))) ∧
    (∀ e h, t.source = .reply e h true → ends (back h v)) ∧
    (t.source = .notice →
      let nt := s.notice p
      (nt.again = true → nt.set &&& nt.mask ≠ 0#16 →
        ends ((v.setNotice p { nt with st := .waiting, again := false }).setArb p
          { s.arb p with tx := none, iq := (s.arb p).iq ++ [{ what := .notice, block := .pool }] })) ∧
      (nt.again = false ∨ nt.set &&& nt.mask = 0#16 → ends (v.setNotice p { nt with st := .none, again := false }))) ∧
    (∀ e h, t.source = .forward e (some h) → ends (back (some h) v)) ∧
    (∀ e, t.source = .forward e none →
      ((s.entry e).snap.retries ≠ 0 → ends v) ∧
      (∀ r, (s.entry e).snap.retries = 0 → (s.entry e).req = some r →
        ends ((back (some { port := (s.entry e).requester, blocks := r.blocks }) v).setEntry e
          { s.entry e with req := none }))) ∧
    (∀ h, t.source = .post h → ends (back (some h) v))

/-- The timers of a channel number, at the millisecond their time is reached: the end of the gap lets the arbiters grant, the last
forward time becomes absent 255 ms on, and a refill sets the credit to CreditBase and the next expiry one period on, and keeps the
millisecond, in which an admission leaves the credit at CreditBase (RequestAdmitted, PostAdmittedOrRefused; R31, R34, R35). That time is
the model's own field (log entry 19). -/
def Obligations.ChannelTimers : Prop :=
  ∀ (c : Chn) s,
    (∀ r t, recordOf s c = some r → (s.chan c).lastForward = some t → s.time = t + BitVec.ofNat 32 r.gap →
      exec (.gapWaitEnd (c.val + 1)) s = .next (settle s)) ∧
    (∀ t, (s.chan c).lastForward = some t → s.time = t + 255#32 →
      exec (.lastForwardTimeExpiry (c.val + 1)) s =
        .next (settle (s.setChan c { s.chan c with lastForward := none }))) ∧
    (∀ r, recordOf s c = some r → (s.chan c).refillAt = some s.time →
      exec (.refill (c.val + 1)) s =
        .next (settle (s.setChan c
          { s.chan c with credit := r.creditBase, lastRefill := some s.time,
                          refillAt := some (s.time + BitVec.ofNat 32 (10 * r.refillPeriod)) })))

/-- The deadline of a FORWARDED entry: with no retry allowed it ends TIMEOUT, and BarOnTimeout then bars the number behind the
TIMEOUT reply, latching BARRED for the owner, ending the waiting retries and the queued requests BARRED and discarding the posts with
that verdict, but changes nothing more where BAR is set already; else it ends REVOKED where the re-forward check fails, BARRED where BAR
is set, and otherwise becomes a waiting retry with the next attempt number, behind the retries that wait. An ending makes a WITHDRAW
(R14, R16, R54, R57, R58, R63). -/
def Obligations.DeadlineReached : Prop :=
  ∀ (e : EntryIx) s, (s.entry e).st = .forwarded → (s.entry e).fwdOnce = true → (s.entry e).deadline = some s.time →
    (s.link (s.entry e).responder).state = .up →
    let x := s.entry e
    let c := x.chan
    let endsAs (st : Status) (u : State) : Prop :=
      u.entry e = { x with st := .replying, status := some st, deadline := none, req := none, withdraw := true } ∧
        (∀ d, d ≠ e → u.entry d = s.entry d) ∧
        u.chan c = { s.chan c with ret := (s.chan c).ret ++ [{ entry := e, frame := none }] } ∧
        (∀ d, d ≠ c → u.chan d = s.chan d) ∧
        (u.arb x.responder).iq = (s.arb x.responder).iq ++ [{ what := .withdraw e, block := .pool }] ∧
        u.policy = s.policy ∧ u.notices = s.notices
    (x.snap.retries < x.attempt →
      (x.snap.barOnTimeout = false ∨ ¬ servedBy s c x.requester x.responder = true ∨ (s.chan c).bar = true) →
      ∃ u, exec (.deadline e.val) s = .next (settle u) ∧ endsAs .timeout u) ∧
    (x.snap.retries < x.attempt → x.snap.barOnTimeout = true → servedBy s c x.requester x.responder = true →
      ExchangesOk s → (s.chan c).bar = false →
      let ended := (s.chan c).retries ++ requestsOf (s.chan c).fwd
      ∃ u, exec (.deadline e.val) s = .next (settle u) ∧ (u.entry e).st = .replying ∧
        (u.entry e).status = some .timeout ∧ (u.chan c).bar = true ∧ (u.chan c).fwd = [] ∧ (u.chan c).retries = [] ∧
        (u.chan c).ret =
          (s.chan c).ret ++ [{ entry := e, frame := none }] ++ ended.map (fun d => { entry := d, frame := none }) ∧
        Withdrawn s u e ∧
        (∀ d, d ∈ ended → (u.entry d).st = .replying ∧ (u.entry d).status = some .barred ∧ Withdrawn s u d) ∧
        (∀ m, .post m ∈ (s.chan c).fwd →
          { what := .verdict .barred 0x03#8 [chnByte c, m.label], block := .charged } ∈ (u.arb m.sender).iq) ∧
        Latched s u (fun p => if p = x.requester then 0x0040#16 else 0#16)) ∧
    (x.attempt ≤ x.snap.retries → ¬ StillAllowed s e →
      ∃ u, exec (.deadline e.val) s = .next (settle u) ∧ endsAs .revoked u) ∧
    (x.attempt ≤ x.snap.retries → StillAllowed s e → (s.chan c).bar = true →
      ∃ u, exec (.deadline e.val) s = .next (settle u) ∧ endsAs .barred u) ∧
    (x.attempt ≤ x.snap.retries → StillAllowed s e → (s.chan c).bar = false →
      exec (.deadline e.val) s =
        .next (settle ((s.setEntry e { x with deadline := none, st := .queued, attempt := x.attempt + 1 }).setChan c
          { s.chan c with retries := (s.chan c).retries ++ [e] })))

/-- A stall: the frame in transmission is discarded and what it held is released, the link is STALLED with receive assembly in HUNT, a
partial frame gives its blocks back and the error count stays. No part frame waits; the port's own requests, their replies and its
posts are gone, each exchange dropped with a WITHDRAW to its UP responder where it had been forwarded, and the outstanding counts fall;
the work toward the port ends ABSENT, the posts to it with that verdict. Blocks of discarded frames are released, a run in progress is
made the last of its frame, the port's touch queue is empty and its contacts have no owner, its mask and set are emptied and repeat
cleared, LINK_CHANGE is latched for PD, and no own HOLD changes; a stall of PD closes an open
session with blank and 0x0000. A frame that lacked only its second CRC byte gives its blocks back, and the byte that falls together
with the stall still completes it, to be taken as on STALLED (R20, R40, R63, R64, R67, R68, R81, R83, R117, R138, R152, R168, R169,
R170, R185; log entry 18: the model's choice of what falls together). -/
def Obligations.StallTearsDown : Prop :=
  ∀ p s t, (s.link p).stall = some s.time → (s.arb p).tx = some t → ExchangesOk s → PortsDiffer s →
    ∃ u, exec (.stall p) s = .next (settle u) ∧ TornDown s u p .absent ∧
      (let part := partialFrame (rxOf s p)
       u.link p =
          { s.link p with
            state := .stalled, stall := none, ready := false, rx := (u.link p).rx
            reserve := (s.link p).reserve -
              (((s.arb p).iq.filter fun g => g.block == .reserve && isAnswer g.what).length +
                (if t.source = .part .reserve then 1 else 0) +
                match part with
                | some f => if f.hold = .reserve then 1 else 0
                | none => 0) } ∧
        ∀ q, u.chargedTo q = s.chargedTo q - (tornBlocks s p .absent q + sentBlocks s p q +
          if q = p then
            (match part with
             | some f => (match f.hold with | .charged n => n | .reserve => 0 | .dropped => 0 | .uncharged => 0)
             | none => 0)
          else 0)) ∧
      ((∀ f hi seen, rxOf s p ≠ .crc2 f hi seen) → (u.link p).rx = .hunt) ∧
      (∀ f hi seen, rxOf s p = .crc2 f hi seen →
        let g : RxFrame := { f with hold := if f.hold = .dropped then .dropped else .uncharged }
        (u.link p).rx = .late g hi ∧
          ∀ b, (Completes s p b f ↔ Completes u p b g) ∧ (¬ Completes s p b f → classify (rxOf u p) b = .assembly)) ∧
      (u.arb p).tx = none ∧ (u.arb p).iq = [] ∧
      ∀ e, live u e = true → (u.entry e).requester = p → (u.entry e).tag = none

/-- The expiry of the session limit in ACTIVE closes the session with blank and 0x0000, whatever the open fill colour: SECURE_IND goes
off, the timer stops, SESSION_CHANGE is latched for all and SESSION_EXPIRED for PD (R111, R114, R122). -/
def Obligations.SessionLimitExpires : Prop :=
  ∀ s r, s.session.state = .active → s.session.limitAt = some s.time → s.session.record = some r →
    exec .sessionLimitExpiry s =
      .next (settle (latch .pd .sessionExpired (latchAll .sessionChange
        { s with session :=
            { state := .closing, secureInd := false, limitAt := none,
              record := some { r with closeReq := none, fill := some ⟨r.rect.y0, r.rect.y1⟩,
                                      fillColour := some 0#16 } } })))

/-- The completion of a run frees the panel link. The last run of a frame releases its blocks; an AD run in OPENING makes the session
ACTIVE, or CLOSING with the blank close stored, or, with a close without blank stored, CLOSING and then IDLE in one event; the last
fill run returns the session to IDLE. The return to IDLE latches SESSION_CHANGE for all and RELEASED for the owners of QuietInSession
channels with own HOLD clear, and then takes a pending switch with every effect of an area switch. Any other fill run changes nothing
more (R13, R99, R108, R109, R113, R115, R116, R137). -/
def Obligations.RunCompletes : Prop :=
  ∀ s r, s.run = some r →
    let v := s.setRun none
    let ends (u : State) : Prop := exec .runComplete s = .next (settle u)
    let idleAgain (u : State) : Prop :=
      u.session.state = .idle ∧ u.session.record = none ∧
        (r.source ≠ .fill → u.session.secureInd = false ∧ u.session.limitAt = none) ∧ u.policy.pendingSwitch = none ∧
        u.policy.active = (match s.policy.pendingSwitch with | some i => i | none => s.policy.active) ∧
        (∀ p, hasCondition (u.notice p).set .sessionChange = true) ∧
        ∀ c k, recordOf s c = some k → k.quietInSession = true → (s.chan c).ownHold = false →
          hasCondition (u.notice k.owner).set .released = true
    (∀ x, r.source = .frame x →
      let w : State :=
        match r.last with
        | some n => v.setCharged (portOfScreen x) (s.chargedTo (portOfScreen x) - n)
        | none => v
      (x = .pd ∨ s.session.state ≠ .opening → ends w) ∧
      (x = .ad → s.session.state = .opening → ∀ q, s.session.record = some q →
        (q.closeReq = none →
          ends (latchAll .sessionChange
            { w with session :=
                { state := .active, secureInd := true, limitAt := some (after s.time (1000 * q.limit)),
                  record := some { q with start := some s.time } } })) ∧
        (∀ colour, q.closeReq = some (.blank colour) →
          ends (latchAll .sessionChange
            { w with session :=
                { state := .closing, secureInd := false, limitAt := none,
                  record := some { q with closeReq := none, fill := some ⟨q.rect.y0, q.rect.y1⟩,
                                          fillColour := some colour } } })) ∧
        (q.closeReq = some .plain →
          ∃ v', BackToIdle { w with session := { w.session with secureInd := false, limitAt := none } } v' ∧
            ends (afterIdle v') ∧ (s.policy.pendingSwitch = none → (afterIdle v').charged = w.charged) ∧
            idleAgain (afterIdle v')))) ∧
    (r.source = .fill → ∀ q f, s.session.state = .closing → s.session.record = some q → q.fill = some f →
      (f.next ≤ f.last → ends v) ∧
      (f.last < f.next →
        ∃ v', BackToIdle v v' ∧ ends (afterIdle v') ∧ idleAgain (afterIdle v')))

/-- The touch link. A failed read (NACK, a count above 2, a coordinate above 4095) raises the failure count and derives no event; the
third in a row is the fault: each present contact, slot 0 and then slot 1, comes to an UP in its owner's queue, by the overflow rules
where that queue is full (TouchEventsDerived), the contact table is emptied and TOUCH_FAULT latched for PD. A good read clears the count and derives
the events of slot 0 and then slot 1; the next read begins at once while the input is asserted. TOUCH_RESTART takes the link out of
FAULT, and is answered with its state (R142, R143, R144, R145, R151). -/
def Obligations.TouchReads : Prop :=
  ∀ s, let idle (failures : Nat) : State :=
      { s with touch := { s.touch with failures := failures, link := if s.touch.attention then .reading else .idle } }
    let fails (i : Instr) : Prop :=
      (s.touch.failures + 1 < 3 → exec i s = .next (settle (idle (s.touch.failures + 1)))) ∧
      (3 ≤ s.touch.failures + 1 →
        let u := latch .pd .touchFault (slotStep 1 none (slotStep 0 none
          { s with touch := { s.touch with failures := s.touch.failures + 1, link := .fault } }))
        exec i s = .next (settle u) ∧ u.touch.link = .fault ∧ u.touch.failures = s.touch.failures + 1 ∧
          u.touch.slot0 = none ∧ u.touch.slot1 = none ∧ hasCondition (u.notice .pd).set .touchFault = true ∧
          (∀ i k x, contactAt s i = some k → k.owner = some x → (s.touchQueue x).length + 2 ≤ 8 →
            { kind := .up, slot := i, px := k.px, py := k.py, time := s.time } ∈ u.touchQueue x))
    (s.touch.link = .reading →
      fails .touchReadNack ∧
      ∀ a, a.length = 11 →
        (goodReport a = true ↔
          (byteAt a 0).toNat ≤ 2 ∧ (byteAt a 1 ≠ 0#8 → natAt a 2 ≤ 4095 ∧ natAt a 4 ≤ 4095) ∧
            (byteAt a 6 ≠ 0#8 → natAt a 7 ≤ 4095 ∧ natAt a 9 ≤ 4095)) ∧
        (goodReport a = false → fails (.touchReadComplete a)) ∧
        (goodReport a = true →
          let u := slotStep 1 (reportSlots a).2 (slotStep 0 (reportSlots a).1 { s with touch := { s.touch with failures := 0 } })
          exec (.touchReadComplete a) s =
            .next (settle { u with touch := { u.touch with link := if s.touch.attention then .reading else .idle } }))) ∧
    ∀ b n code tag, Asks s .pd b n code tag [] → code = 0x32#8 →
      (s.touch.link = .fault →
        exec (.touchRestart .pd b) s =
          .next (answered .pd (.controlReply code tag .done [if s.touch.attention then 1#8 else 0#8])
            { kept .pd n s with
              touch := { s.touch with failures := 0, link := if s.touch.attention then .reading else .idle } })) ∧
      (s.touch.link ≠ .fault →
        exec (.touchRestart .pd b) s =
          .next (answered .pd (.controlReply code tag .done [s.touch.link.code]) (kept .pd n s)))

/-- One slot of a good read against the contact table: an appearing contact derives a DOWN and gets its owner from the session, a moved
one a MOVE, a vanished one an UP; each event joins the touch queue of the contact's owner alone, or none. At a full queue the event
in transmission stands, and among the others a MOVE takes the place of the newest MOVE of its contact, or costs the oldest MOVE, or is
dropped and the contact keeps its last position; a DOWN or UP costs the oldest MOVE, or else the oldest event with TOUCH_LOST latched.
Coordinates are those of the panel (R120, R146, R147, R148, R149, R150, R151). That the newest queued event of the slot tells whether a
MOVE of the present contact is queued is log entry 9: the model's choice. -/
def Obligations.TouchEventsDerived : Prop :=
  ∀ s (i : Fin 2) (q : Nat × Nat),
    let event (k : TouchKind) (x y : Nat) : TouchEvent := { kind := k, slot := i, px := x, py := y, time := s.time }
    let sent (x : Screen) : List TouchEvent := if touchSending s x then (s.touchQueue x).take 1 else []
    let queued (x : Screen) : List TouchEvent := if touchSending s x then (s.touchQueue x).drop 1 else s.touchQueue x
    let joins (o : Option Screen) (ev : TouchEvent) (t : State) : Prop :=
      (∀ x, o = some x → (s.touchQueue x).length < 8 → t.touchQueue x = s.touchQueue x ++ [ev] ∧ t.notices = s.notices) ∧
      (∀ x, o ≠ some x → t.touchQueue x = s.touchQueue x)
    let edge (o : Option Screen) (ev : TouchEvent) (t : State) : Prop :=
      joins o ev t ∧
      ∀ x, o = some x → 8 ≤ (s.touchQueue x).length →
        (∀ a m b, queued x = a ++ m :: b → m.kind = .move → (∀ k ∈ a, k.kind ≠ .move) →
          t.touchQueue x = sent x ++ (a ++ b) ++ [ev] ∧ t.notices = s.notices) ∧
        ((∀ k ∈ queued x, k.kind ≠ .move) →
          t.touchQueue x = sent x ++ (queued x).drop 1 ++ [ev] ∧
            Latched s t (fun p => if p = portOfScreen x then 0x0080#16 else 0#16))
    (contactAt s i = none → slotStep i none s = s ∧
      let t := slotStep i (some q) s
      contactAt t i = some { owner := ownerNow s, px := q.1, py := q.2 } ∧ edge (ownerNow s) (event .down q.1 q.2) t) ∧
    (∀ c, contactAt s i = some c →
      (contactAt (slotStep i none s) i = none ∧ edge c.owner (event .up c.px c.py) (slotStep i none s)) ∧
      (q = (c.px, c.py) → slotStep i (some q) s = s) ∧
      (q ≠ (c.px, c.py) →
        let t := slotStep i (some q) s
        let moved : Prop := contactAt t i = some { c with px := q.1, py := q.2 } ∧ t.notices = s.notices
        joins c.owner (event .move q.1 q.2) t ∧
        ((∀ x, c.owner = some x → (s.touchQueue x).length < 8) → moved) ∧
        ∀ x, c.owner = some x → 8 ≤ (s.touchQueue x).length →
          let newest (a : List TouchEvent) (m : TouchEvent) (b : List TouchEvent) : Prop :=
            queued x = a ++ m :: b ∧ m.slot = i ∧ ∀ k ∈ b, k.slot ≠ i
          (∀ a m b, newest a m b → m.kind = .move →
            moved ∧ t.touchQueue x = sent x ++ a ++ { m with px := q.1, py := q.2, time := s.time } :: b) ∧
          ((∀ a m b, newest a m b → m.kind ≠ .move) →
            (∀ a m b, queued x = a ++ m :: b → m.kind = .move → (∀ k ∈ a, k.kind ≠ .move) →
              moved ∧ t.touchQueue x = sent x ++ (a ++ b) ++ [event .move q.1 q.2]) ∧
            ((∀ k ∈ queued x, k.kind ≠ .move) → t = s)))) ∧
    (∀ a at', byteAt a at' ≠ 0#8 →
      (rawSlot a at').map scale = some (natAt a (at' + 1) * 320 / 4096, natAt a (at' + 3) * 240 / 4096)) ∧
    (ownerNow s =
      match s.session.state with
      | .idle => some .ad
      | .closing => none
      | .opening => if (match s.session.record with | some r => r.capture | none => false) then some .pd else some .ad
      | .active => if (match s.session.record with | some r => r.capture | none => false) then some .pd else some .ad)

/-- A tick at a millisecond at which nothing is due advances the time base by 1 modulo 2^32 and changes nothing else. An event that is
due is taken first: the tick takes the command of every timed event in turn, each of which does nothing where its event is not due
(R22, R23; log entries 2 and 4: the model's choice, and so is the order), and a frame that lacked its second CRC byte at a stall of this
millisecond is gone with it (log entry 18: the model's choice). -/
def Obligations.TickAdvancesTime : Prop :=
  (∀ s, ∃ t, Leads dueCommands s t ∧ exec .timeBaseTick s = .next { settleRx t with time := s.time + 1#32 }) ∧
  (∀ s p, ((∀ f hi, rxOf s p ≠ .late f hi) → rxOf (settleRx s) p = rxOf s p) ∧
    (∀ f hi, rxOf s p = .late f hi → rxOf (settleRx s) p = .hunt)) ∧
  ∀ s, (∀ p, (s.link p).stall ≠ some s.time ∧ (∀ f hi, rxOf s p ≠ .late f hi) ∧
        ∀ t, lastSeen (rxOf s p) = some t → s.time ≠ t + 21#32) →
    (∀ c, (s.chan c).refillAt ≠ some s.time ∧
      ∀ t, (s.chan c).lastForward = some t →
        s.time ≠ t + 255#32 ∧ ∀ r, recordOf s c = some r → s.time ≠ t + BitVec.ofNat 32 r.gap) →
    (∀ e, (s.entry e).deadline ≠ some s.time) → s.session.limitAt ≠ some s.time →
    exec .timeBaseTick s = .next { s with time := s.time + 1#32 }
end

