-- ==== Sys2Proof/Laws/State.lean ====
section
/-! SUPPORT. The updates of the state field by field: what each setter leaves, and what the accessors read after it. -/

namespace Sys2Proof.Machine

/-! ## One value per port, one per screen -/

@[simp] theorem PerPort.get_set_self {α : Type} (v : PerPort α) (p : Port) (x : α) : (v.set p x).get p = x := by
  cases p <;> rfl

theorem PerPort.get_set_ne {α : Type} (v : PerPort α) {p q : Port} (x : α) (h : q ≠ p) : (v.set p x).get q = v.get q := by
  cases p <;> cases q <;> first | rfl | exact absurd rfl h

theorem PerPort.get_set {α : Type} (v : PerPort α) (p q : Port) (x : α) :
    (v.set p x).get q = if q = p then x else v.get q := by
  cases p <;> cases q <;> rfl

@[simp] theorem PerPort.set_set {α : Type} (v : PerPort α) (p : Port) (x y : α) : (v.set p x).set p y = v.set p y := by
  cases p <;> rfl

@[simp] theorem PerPort.set_get {α : Type} (v : PerPort α) (p : Port) : v.set p (v.get p) = v := by
  cases p <;> rfl

@[simp] theorem PerScreen.get_set_self {α : Type} (v : PerScreen α) (x : Screen) (y : α) : (v.set x y).get x = y := by
  cases x <;> rfl

theorem PerScreen.get_set {α : Type} (v : PerScreen α) (x z : Screen) (y : α) :
    (v.set x y).get z = if z = x then y else v.get z := by
  cases x <;> cases z <;> rfl

/-! ## What each setter leaves as it was -/

@[simp] theorem State.setLink_pending (s : State) (p : Port) (v : Link) : (s.setLink p v).pending = s.pending := rfl
@[simp] theorem State.setLink_time (s : State) (p : Port) (v : Link) : (s.setLink p v).time = s.time := rfl
@[simp] theorem State.setLink_radio (s : State) (p : Port) (v : Link) : (s.setLink p v).radio = s.radio := rfl
@[simp] theorem State.setLink_charged (s : State) (p : Port) (v : Link) : (s.setLink p v).charged = s.charged := rfl
@[simp] theorem State.setLink_arbs (s : State) (p : Port) (v : Link) : (s.setLink p v).arbs = s.arbs := rfl
@[simp] theorem State.setLink_policy (s : State) (p : Port) (v : Link) : (s.setLink p v).policy = s.policy := rfl
@[simp] theorem State.setLink_chans (s : State) (p : Port) (v : Link) : (s.setLink p v).chans = s.chans := rfl
@[simp] theorem State.setLink_exch (s : State) (p : Port) (v : Link) : (s.setLink p v).exch = s.exch := rfl
@[simp] theorem State.setLink_session (s : State) (p : Port) (v : Link) : (s.setLink p v).session = s.session := rfl
@[simp] theorem State.setLink_draws (s : State) (p : Port) (v : Link) : (s.setLink p v).draws = s.draws := rfl
@[simp] theorem State.setLink_run (s : State) (p : Port) (v : Link) : (s.setLink p v).run = s.run := rfl
@[simp] theorem State.setLink_touch (s : State) (p : Port) (v : Link) : (s.setLink p v).touch = s.touch := rfl
@[simp] theorem State.setLink_notices (s : State) (p : Port) (v : Link) : (s.setLink p v).notices = s.notices := rfl
@[simp] theorem State.setLink_arb (s : State) (p : Port) (v : Link) (y : Port) : (s.setLink p v).arb y = s.arb y := rfl
@[simp] theorem State.setLink_notice (s : State) (p : Port) (v : Link) (y : Port) : (s.setLink p v).notice y = s.notice y := rfl
@[simp] theorem State.setLink_chargedTo (s : State) (p : Port) (v : Link) (y : Port) : (s.setLink p v).chargedTo y = s.chargedTo y := rfl
@[simp] theorem State.setLink_chan (s : State) (p : Port) (v : Link) (y : Chn) : (s.setLink p v).chan y = s.chan y := rfl
@[simp] theorem State.setLink_entry (s : State) (p : Port) (v : Link) (y : EntryIx) : (s.setLink p v).entry y = s.entry y := rfl
@[simp] theorem State.setLink_draw (s : State) (p : Port) (v : Link) (y : Screen) : (s.setLink p v).draw y = s.draw y := rfl
@[simp] theorem State.setLink_touchQueue (s : State) (p : Port) (v : Link) (y : Screen) : (s.setLink p v).touchQueue y = s.touchQueue y := rfl

@[simp] theorem State.setArb_pending (s : State) (p : Port) (v : Arbiter) : (s.setArb p v).pending = s.pending := rfl
@[simp] theorem State.setArb_time (s : State) (p : Port) (v : Arbiter) : (s.setArb p v).time = s.time := rfl
@[simp] theorem State.setArb_links (s : State) (p : Port) (v : Arbiter) : (s.setArb p v).links = s.links := rfl
@[simp] theorem State.setArb_radio (s : State) (p : Port) (v : Arbiter) : (s.setArb p v).radio = s.radio := rfl
@[simp] theorem State.setArb_charged (s : State) (p : Port) (v : Arbiter) : (s.setArb p v).charged = s.charged := rfl
@[simp] theorem State.setArb_policy (s : State) (p : Port) (v : Arbiter) : (s.setArb p v).policy = s.policy := rfl
@[simp] theorem State.setArb_chans (s : State) (p : Port) (v : Arbiter) : (s.setArb p v).chans = s.chans := rfl
@[simp] theorem State.setArb_exch (s : State) (p : Port) (v : Arbiter) : (s.setArb p v).exch = s.exch := rfl
@[simp] theorem State.setArb_session (s : State) (p : Port) (v : Arbiter) : (s.setArb p v).session = s.session := rfl
@[simp] theorem State.setArb_draws (s : State) (p : Port) (v : Arbiter) : (s.setArb p v).draws = s.draws := rfl
@[simp] theorem State.setArb_run (s : State) (p : Port) (v : Arbiter) : (s.setArb p v).run = s.run := rfl
@[simp] theorem State.setArb_touch (s : State) (p : Port) (v : Arbiter) : (s.setArb p v).touch = s.touch := rfl
@[simp] theorem State.setArb_notices (s : State) (p : Port) (v : Arbiter) : (s.setArb p v).notices = s.notices := rfl
@[simp] theorem State.setArb_link (s : State) (p : Port) (v : Arbiter) (y : Port) : (s.setArb p v).link y = s.link y := rfl
@[simp] theorem State.setArb_notice (s : State) (p : Port) (v : Arbiter) (y : Port) : (s.setArb p v).notice y = s.notice y := rfl
@[simp] theorem State.setArb_chargedTo (s : State) (p : Port) (v : Arbiter) (y : Port) : (s.setArb p v).chargedTo y = s.chargedTo y := rfl
@[simp] theorem State.setArb_chan (s : State) (p : Port) (v : Arbiter) (y : Chn) : (s.setArb p v).chan y = s.chan y := rfl
@[simp] theorem State.setArb_entry (s : State) (p : Port) (v : Arbiter) (y : EntryIx) : (s.setArb p v).entry y = s.entry y := rfl
@[simp] theorem State.setArb_draw (s : State) (p : Port) (v : Arbiter) (y : Screen) : (s.setArb p v).draw y = s.draw y := rfl
@[simp] theorem State.setArb_touchQueue (s : State) (p : Port) (v : Arbiter) (y : Screen) : (s.setArb p v).touchQueue y = s.touchQueue y := rfl

@[simp] theorem State.setNotice_pending (s : State) (p : Port) (v : Notice) : (s.setNotice p v).pending = s.pending := rfl
@[simp] theorem State.setNotice_time (s : State) (p : Port) (v : Notice) : (s.setNotice p v).time = s.time := rfl
@[simp] theorem State.setNotice_links (s : State) (p : Port) (v : Notice) : (s.setNotice p v).links = s.links := rfl
@[simp] theorem State.setNotice_radio (s : State) (p : Port) (v : Notice) : (s.setNotice p v).radio = s.radio := rfl
@[simp] theorem State.setNotice_charged (s : State) (p : Port) (v : Notice) : (s.setNotice p v).charged = s.charged := rfl
@[simp] theorem State.setNotice_arbs (s : State) (p : Port) (v : Notice) : (s.setNotice p v).arbs = s.arbs := rfl
@[simp] theorem State.setNotice_policy (s : State) (p : Port) (v : Notice) : (s.setNotice p v).policy = s.policy := rfl
@[simp] theorem State.setNotice_chans (s : State) (p : Port) (v : Notice) : (s.setNotice p v).chans = s.chans := rfl
@[simp] theorem State.setNotice_exch (s : State) (p : Port) (v : Notice) : (s.setNotice p v).exch = s.exch := rfl
@[simp] theorem State.setNotice_session (s : State) (p : Port) (v : Notice) : (s.setNotice p v).session = s.session := rfl
@[simp] theorem State.setNotice_draws (s : State) (p : Port) (v : Notice) : (s.setNotice p v).draws = s.draws := rfl
@[simp] theorem State.setNotice_run (s : State) (p : Port) (v : Notice) : (s.setNotice p v).run = s.run := rfl
@[simp] theorem State.setNotice_touch (s : State) (p : Port) (v : Notice) : (s.setNotice p v).touch = s.touch := rfl
@[simp] theorem State.setNotice_link (s : State) (p : Port) (v : Notice) (y : Port) : (s.setNotice p v).link y = s.link y := rfl
@[simp] theorem State.setNotice_arb (s : State) (p : Port) (v : Notice) (y : Port) : (s.setNotice p v).arb y = s.arb y := rfl
@[simp] theorem State.setNotice_chargedTo (s : State) (p : Port) (v : Notice) (y : Port) : (s.setNotice p v).chargedTo y = s.chargedTo y := rfl
@[simp] theorem State.setNotice_chan (s : State) (p : Port) (v : Notice) (y : Chn) : (s.setNotice p v).chan y = s.chan y := rfl
@[simp] theorem State.setNotice_entry (s : State) (p : Port) (v : Notice) (y : EntryIx) : (s.setNotice p v).entry y = s.entry y := rfl
@[simp] theorem State.setNotice_draw (s : State) (p : Port) (v : Notice) (y : Screen) : (s.setNotice p v).draw y = s.draw y := rfl
@[simp] theorem State.setNotice_touchQueue (s : State) (p : Port) (v : Notice) (y : Screen) : (s.setNotice p v).touchQueue y = s.touchQueue y := rfl

@[simp] theorem State.setCharged_pending (s : State) (p : Port) (n : Nat) : (s.setCharged p n).pending = s.pending := rfl
@[simp] theorem State.setCharged_time (s : State) (p : Port) (n : Nat) : (s.setCharged p n).time = s.time := rfl
@[simp] theorem State.setCharged_links (s : State) (p : Port) (n : Nat) : (s.setCharged p n).links = s.links := rfl
@[simp] theorem State.setCharged_radio (s : State) (p : Port) (n : Nat) : (s.setCharged p n).radio = s.radio := rfl
@[simp] theorem State.setCharged_arbs (s : State) (p : Port) (n : Nat) : (s.setCharged p n).arbs = s.arbs := rfl
@[simp] theorem State.setCharged_policy (s : State) (p : Port) (n : Nat) : (s.setCharged p n).policy = s.policy := rfl
@[simp] theorem State.setCharged_chans (s : State) (p : Port) (n : Nat) : (s.setCharged p n).chans = s.chans := rfl
@[simp] theorem State.setCharged_exch (s : State) (p : Port) (n : Nat) : (s.setCharged p n).exch = s.exch := rfl
@[simp] theorem State.setCharged_session (s : State) (p : Port) (n : Nat) : (s.setCharged p n).session = s.session := rfl
@[simp] theorem State.setCharged_draws (s : State) (p : Port) (n : Nat) : (s.setCharged p n).draws = s.draws := rfl
@[simp] theorem State.setCharged_run (s : State) (p : Port) (n : Nat) : (s.setCharged p n).run = s.run := rfl
@[simp] theorem State.setCharged_touch (s : State) (p : Port) (n : Nat) : (s.setCharged p n).touch = s.touch := rfl
@[simp] theorem State.setCharged_notices (s : State) (p : Port) (n : Nat) : (s.setCharged p n).notices = s.notices := rfl
@[simp] theorem State.setCharged_link (s : State) (p : Port) (n : Nat) (y : Port) : (s.setCharged p n).link y = s.link y := rfl
@[simp] theorem State.setCharged_arb (s : State) (p : Port) (n : Nat) (y : Port) : (s.setCharged p n).arb y = s.arb y := rfl
@[simp] theorem State.setCharged_notice (s : State) (p : Port) (n : Nat) (y : Port) : (s.setCharged p n).notice y = s.notice y := rfl
@[simp] theorem State.setCharged_chan (s : State) (p : Port) (n : Nat) (y : Chn) : (s.setCharged p n).chan y = s.chan y := rfl
@[simp] theorem State.setCharged_entry (s : State) (p : Port) (n : Nat) (y : EntryIx) : (s.setCharged p n).entry y = s.entry y := rfl
@[simp] theorem State.setCharged_draw (s : State) (p : Port) (n : Nat) (y : Screen) : (s.setCharged p n).draw y = s.draw y := rfl
@[simp] theorem State.setCharged_touchQueue (s : State) (p : Port) (n : Nat) (y : Screen) : (s.setCharged p n).touchQueue y = s.touchQueue y := rfl

@[simp] theorem State.setChan_pending (s : State) (c : Chn) (v : Chan) : (s.setChan c v).pending = s.pending := rfl
@[simp] theorem State.setChan_time (s : State) (c : Chn) (v : Chan) : (s.setChan c v).time = s.time := rfl
@[simp] theorem State.setChan_links (s : State) (c : Chn) (v : Chan) : (s.setChan c v).links = s.links := rfl
@[simp] theorem State.setChan_radio (s : State) (c : Chn) (v : Chan) : (s.setChan c v).radio = s.radio := rfl
@[simp] theorem State.setChan_charged (s : State) (c : Chn) (v : Chan) : (s.setChan c v).charged = s.charged := rfl
@[simp] theorem State.setChan_arbs (s : State) (c : Chn) (v : Chan) : (s.setChan c v).arbs = s.arbs := rfl
@[simp] theorem State.setChan_policy (s : State) (c : Chn) (v : Chan) : (s.setChan c v).policy = s.policy := rfl
@[simp] theorem State.setChan_exch (s : State) (c : Chn) (v : Chan) : (s.setChan c v).exch = s.exch := rfl
@[simp] theorem State.setChan_session (s : State) (c : Chn) (v : Chan) : (s.setChan c v).session = s.session := rfl
@[simp] theorem State.setChan_draws (s : State) (c : Chn) (v : Chan) : (s.setChan c v).draws = s.draws := rfl
@[simp] theorem State.setChan_run (s : State) (c : Chn) (v : Chan) : (s.setChan c v).run = s.run := rfl
@[simp] theorem State.setChan_touch (s : State) (c : Chn) (v : Chan) : (s.setChan c v).touch = s.touch := rfl
@[simp] theorem State.setChan_notices (s : State) (c : Chn) (v : Chan) : (s.setChan c v).notices = s.notices := rfl
@[simp] theorem State.setChan_link (s : State) (c : Chn) (v : Chan) (y : Port) : (s.setChan c v).link y = s.link y := rfl
@[simp] theorem State.setChan_arb (s : State) (c : Chn) (v : Chan) (y : Port) : (s.setChan c v).arb y = s.arb y := rfl
@[simp] theorem State.setChan_notice (s : State) (c : Chn) (v : Chan) (y : Port) : (s.setChan c v).notice y = s.notice y := rfl
@[simp] theorem State.setChan_chargedTo (s : State) (c : Chn) (v : Chan) (y : Port) : (s.setChan c v).chargedTo y = s.chargedTo y := rfl
@[simp] theorem State.setChan_entry (s : State) (c : Chn) (v : Chan) (y : EntryIx) : (s.setChan c v).entry y = s.entry y := rfl
@[simp] theorem State.setChan_draw (s : State) (c : Chn) (v : Chan) (y : Screen) : (s.setChan c v).draw y = s.draw y := rfl
@[simp] theorem State.setChan_touchQueue (s : State) (c : Chn) (v : Chan) (y : Screen) : (s.setChan c v).touchQueue y = s.touchQueue y := rfl

@[simp] theorem State.setEntry_pending (s : State) (e : EntryIx) (v : Entry) : (s.setEntry e v).pending = s.pending := rfl
@[simp] theorem State.setEntry_time (s : State) (e : EntryIx) (v : Entry) : (s.setEntry e v).time = s.time := rfl
@[simp] theorem State.setEntry_links (s : State) (e : EntryIx) (v : Entry) : (s.setEntry e v).links = s.links := rfl
@[simp] theorem State.setEntry_radio (s : State) (e : EntryIx) (v : Entry) : (s.setEntry e v).radio = s.radio := rfl
@[simp] theorem State.setEntry_charged (s : State) (e : EntryIx) (v : Entry) : (s.setEntry e v).charged = s.charged := rfl
@[simp] theorem State.setEntry_arbs (s : State) (e : EntryIx) (v : Entry) : (s.setEntry e v).arbs = s.arbs := rfl
@[simp] theorem State.setEntry_policy (s : State) (e : EntryIx) (v : Entry) : (s.setEntry e v).policy = s.policy := rfl
@[simp] theorem State.setEntry_chans (s : State) (e : EntryIx) (v : Entry) : (s.setEntry e v).chans = s.chans := rfl
@[simp] theorem State.setEntry_session (s : State) (e : EntryIx) (v : Entry) : (s.setEntry e v).session = s.session := rfl
@[simp] theorem State.setEntry_draws (s : State) (e : EntryIx) (v : Entry) : (s.setEntry e v).draws = s.draws := rfl
@[simp] theorem State.setEntry_run (s : State) (e : EntryIx) (v : Entry) : (s.setEntry e v).run = s.run := rfl
@[simp] theorem State.setEntry_touch (s : State) (e : EntryIx) (v : Entry) : (s.setEntry e v).touch = s.touch := rfl
@[simp] theorem State.setEntry_notices (s : State) (e : EntryIx) (v : Entry) : (s.setEntry e v).notices = s.notices := rfl
@[simp] theorem State.setEntry_link (s : State) (e : EntryIx) (v : Entry) (y : Port) : (s.setEntry e v).link y = s.link y := rfl
@[simp] theorem State.setEntry_arb (s : State) (e : EntryIx) (v : Entry) (y : Port) : (s.setEntry e v).arb y = s.arb y := rfl
@[simp] theorem State.setEntry_notice (s : State) (e : EntryIx) (v : Entry) (y : Port) : (s.setEntry e v).notice y = s.notice y := rfl
@[simp] theorem State.setEntry_chargedTo (s : State) (e : EntryIx) (v : Entry) (y : Port) : (s.setEntry e v).chargedTo y = s.chargedTo y := rfl
@[simp] theorem State.setEntry_chan (s : State) (e : EntryIx) (v : Entry) (y : Chn) : (s.setEntry e v).chan y = s.chan y := rfl
@[simp] theorem State.setEntry_draw (s : State) (e : EntryIx) (v : Entry) (y : Screen) : (s.setEntry e v).draw y = s.draw y := rfl
@[simp] theorem State.setEntry_touchQueue (s : State) (e : EntryIx) (v : Entry) (y : Screen) : (s.setEntry e v).touchQueue y = s.touchQueue y := rfl

@[simp] theorem State.setDraw_pending (s : State) (x : Screen) (v : Draw) : (s.setDraw x v).pending = s.pending := rfl
@[simp] theorem State.setDraw_time (s : State) (x : Screen) (v : Draw) : (s.setDraw x v).time = s.time := rfl
@[simp] theorem State.setDraw_links (s : State) (x : Screen) (v : Draw) : (s.setDraw x v).links = s.links := rfl
@[simp] theorem State.setDraw_radio (s : State) (x : Screen) (v : Draw) : (s.setDraw x v).radio = s.radio := rfl
@[simp] theorem State.setDraw_charged (s : State) (x : Screen) (v : Draw) : (s.setDraw x v).charged = s.charged := rfl
@[simp] theorem State.setDraw_arbs (s : State) (x : Screen) (v : Draw) : (s.setDraw x v).arbs = s.arbs := rfl
@[simp] theorem State.setDraw_policy (s : State) (x : Screen) (v : Draw) : (s.setDraw x v).policy = s.policy := rfl
@[simp] theorem State.setDraw_chans (s : State) (x : Screen) (v : Draw) : (s.setDraw x v).chans = s.chans := rfl
@[simp] theorem State.setDraw_exch (s : State) (x : Screen) (v : Draw) : (s.setDraw x v).exch = s.exch := rfl
@[simp] theorem State.setDraw_session (s : State) (x : Screen) (v : Draw) : (s.setDraw x v).session = s.session := rfl
@[simp] theorem State.setDraw_run (s : State) (x : Screen) (v : Draw) : (s.setDraw x v).run = s.run := rfl
@[simp] theorem State.setDraw_touch (s : State) (x : Screen) (v : Draw) : (s.setDraw x v).touch = s.touch := rfl
@[simp] theorem State.setDraw_notices (s : State) (x : Screen) (v : Draw) : (s.setDraw x v).notices = s.notices := rfl
@[simp] theorem State.setDraw_link (s : State) (x : Screen) (v : Draw) (y : Port) : (s.setDraw x v).link y = s.link y := rfl
@[simp] theorem State.setDraw_arb (s : State) (x : Screen) (v : Draw) (y : Port) : (s.setDraw x v).arb y = s.arb y := rfl
@[simp] theorem State.setDraw_notice (s : State) (x : Screen) (v : Draw) (y : Port) : (s.setDraw x v).notice y = s.notice y := rfl
@[simp] theorem State.setDraw_chargedTo (s : State) (x : Screen) (v : Draw) (y : Port) : (s.setDraw x v).chargedTo y = s.chargedTo y := rfl
@[simp] theorem State.setDraw_chan (s : State) (x : Screen) (v : Draw) (y : Chn) : (s.setDraw x v).chan y = s.chan y := rfl
@[simp] theorem State.setDraw_entry (s : State) (x : Screen) (v : Draw) (y : EntryIx) : (s.setDraw x v).entry y = s.entry y := rfl
@[simp] theorem State.setDraw_touchQueue (s : State) (x : Screen) (v : Draw) (y : Screen) : (s.setDraw x v).touchQueue y = s.touchQueue y := rfl

@[simp] theorem State.setRun_pending (s : State) (v : Option Run) : (s.setRun v).pending = s.pending := rfl
@[simp] theorem State.setRun_time (s : State) (v : Option Run) : (s.setRun v).time = s.time := rfl
@[simp] theorem State.setRun_links (s : State) (v : Option Run) : (s.setRun v).links = s.links := rfl
@[simp] theorem State.setRun_radio (s : State) (v : Option Run) : (s.setRun v).radio = s.radio := rfl
@[simp] theorem State.setRun_charged (s : State) (v : Option Run) : (s.setRun v).charged = s.charged := rfl
@[simp] theorem State.setRun_arbs (s : State) (v : Option Run) : (s.setRun v).arbs = s.arbs := rfl
@[simp] theorem State.setRun_policy (s : State) (v : Option Run) : (s.setRun v).policy = s.policy := rfl
@[simp] theorem State.setRun_chans (s : State) (v : Option Run) : (s.setRun v).chans = s.chans := rfl
@[simp] theorem State.setRun_exch (s : State) (v : Option Run) : (s.setRun v).exch = s.exch := rfl
@[simp] theorem State.setRun_session (s : State) (v : Option Run) : (s.setRun v).session = s.session := rfl
@[simp] theorem State.setRun_draws (s : State) (v : Option Run) : (s.setRun v).draws = s.draws := rfl
@[simp] theorem State.setRun_touch (s : State) (v : Option Run) : (s.setRun v).touch = s.touch := rfl
@[simp] theorem State.setRun_notices (s : State) (v : Option Run) : (s.setRun v).notices = s.notices := rfl
@[simp] theorem State.setRun_link (s : State) (v : Option Run) (y : Port) : (s.setRun v).link y = s.link y := rfl
@[simp] theorem State.setRun_arb (s : State) (v : Option Run) (y : Port) : (s.setRun v).arb y = s.arb y := rfl
@[simp] theorem State.setRun_notice (s : State) (v : Option Run) (y : Port) : (s.setRun v).notice y = s.notice y := rfl
@[simp] theorem State.setRun_chargedTo (s : State) (v : Option Run) (y : Port) : (s.setRun v).chargedTo y = s.chargedTo y := rfl
@[simp] theorem State.setRun_chan (s : State) (v : Option Run) (y : Chn) : (s.setRun v).chan y = s.chan y := rfl
@[simp] theorem State.setRun_entry (s : State) (v : Option Run) (y : EntryIx) : (s.setRun v).entry y = s.entry y := rfl
@[simp] theorem State.setRun_draw (s : State) (v : Option Run) (y : Screen) : (s.setRun v).draw y = s.draw y := rfl
@[simp] theorem State.setRun_touchQueue (s : State) (v : Option Run) (y : Screen) : (s.setRun v).touchQueue y = s.touchQueue y := rfl

@[simp] theorem State.setSession_pending (s : State) (v : Session) : (s.setSession v).pending = s.pending := rfl
@[simp] theorem State.setSession_time (s : State) (v : Session) : (s.setSession v).time = s.time := rfl
@[simp] theorem State.setSession_links (s : State) (v : Session) : (s.setSession v).links = s.links := rfl
@[simp] theorem State.setSession_radio (s : State) (v : Session) : (s.setSession v).radio = s.radio := rfl
@[simp] theorem State.setSession_charged (s : State) (v : Session) : (s.setSession v).charged = s.charged := rfl
@[simp] theorem State.setSession_arbs (s : State) (v : Session) : (s.setSession v).arbs = s.arbs := rfl
@[simp] theorem State.setSession_policy (s : State) (v : Session) : (s.setSession v).policy = s.policy := rfl
@[simp] theorem State.setSession_chans (s : State) (v : Session) : (s.setSession v).chans = s.chans := rfl
@[simp] theorem State.setSession_exch (s : State) (v : Session) : (s.setSession v).exch = s.exch := rfl
@[simp] theorem State.setSession_draws (s : State) (v : Session) : (s.setSession v).draws = s.draws := rfl
@[simp] theorem State.setSession_run (s : State) (v : Session) : (s.setSession v).run = s.run := rfl
@[simp] theorem State.setSession_touch (s : State) (v : Session) : (s.setSession v).touch = s.touch := rfl
@[simp] theorem State.setSession_notices (s : State) (v : Session) : (s.setSession v).notices = s.notices := rfl
@[simp] theorem State.setSession_link (s : State) (v : Session) (y : Port) : (s.setSession v).link y = s.link y := rfl
@[simp] theorem State.setSession_arb (s : State) (v : Session) (y : Port) : (s.setSession v).arb y = s.arb y := rfl
@[simp] theorem State.setSession_notice (s : State) (v : Session) (y : Port) : (s.setSession v).notice y = s.notice y := rfl
@[simp] theorem State.setSession_chargedTo (s : State) (v : Session) (y : Port) : (s.setSession v).chargedTo y = s.chargedTo y := rfl
@[simp] theorem State.setSession_chan (s : State) (v : Session) (y : Chn) : (s.setSession v).chan y = s.chan y := rfl
@[simp] theorem State.setSession_entry (s : State) (v : Session) (y : EntryIx) : (s.setSession v).entry y = s.entry y := rfl
@[simp] theorem State.setSession_draw (s : State) (v : Session) (y : Screen) : (s.setSession v).draw y = s.draw y := rfl
@[simp] theorem State.setSession_touchQueue (s : State) (v : Session) (y : Screen) : (s.setSession v).touchQueue y = s.touchQueue y := rfl

@[simp] theorem State.setTouch_pending (s : State) (v : Touch) : (s.setTouch v).pending = s.pending := rfl
@[simp] theorem State.setTouch_time (s : State) (v : Touch) : (s.setTouch v).time = s.time := rfl
@[simp] theorem State.setTouch_links (s : State) (v : Touch) : (s.setTouch v).links = s.links := rfl
@[simp] theorem State.setTouch_radio (s : State) (v : Touch) : (s.setTouch v).radio = s.radio := rfl
@[simp] theorem State.setTouch_charged (s : State) (v : Touch) : (s.setTouch v).charged = s.charged := rfl
@[simp] theorem State.setTouch_arbs (s : State) (v : Touch) : (s.setTouch v).arbs = s.arbs := rfl
@[simp] theorem State.setTouch_policy (s : State) (v : Touch) : (s.setTouch v).policy = s.policy := rfl
@[simp] theorem State.setTouch_chans (s : State) (v : Touch) : (s.setTouch v).chans = s.chans := rfl
@[simp] theorem State.setTouch_exch (s : State) (v : Touch) : (s.setTouch v).exch = s.exch := rfl
@[simp] theorem State.setTouch_session (s : State) (v : Touch) : (s.setTouch v).session = s.session := rfl
@[simp] theorem State.setTouch_draws (s : State) (v : Touch) : (s.setTouch v).draws = s.draws := rfl
@[simp] theorem State.setTouch_run (s : State) (v : Touch) : (s.setTouch v).run = s.run := rfl
@[simp] theorem State.setTouch_notices (s : State) (v : Touch) : (s.setTouch v).notices = s.notices := rfl
@[simp] theorem State.setTouch_link (s : State) (v : Touch) (y : Port) : (s.setTouch v).link y = s.link y := rfl
@[simp] theorem State.setTouch_arb (s : State) (v : Touch) (y : Port) : (s.setTouch v).arb y = s.arb y := rfl
@[simp] theorem State.setTouch_notice (s : State) (v : Touch) (y : Port) : (s.setTouch v).notice y = s.notice y := rfl
@[simp] theorem State.setTouch_chargedTo (s : State) (v : Touch) (y : Port) : (s.setTouch v).chargedTo y = s.chargedTo y := rfl
@[simp] theorem State.setTouch_chan (s : State) (v : Touch) (y : Chn) : (s.setTouch v).chan y = s.chan y := rfl
@[simp] theorem State.setTouch_entry (s : State) (v : Touch) (y : EntryIx) : (s.setTouch v).entry y = s.entry y := rfl
@[simp] theorem State.setTouch_draw (s : State) (v : Touch) (y : Screen) : (s.setTouch v).draw y = s.draw y := rfl

@[simp] theorem State.setTouchQueue_pending (s : State) (x : Screen) (q : List TouchEvent) : (s.setTouchQueue x q).pending = s.pending := rfl
@[simp] theorem State.setTouchQueue_time (s : State) (x : Screen) (q : List TouchEvent) : (s.setTouchQueue x q).time = s.time := rfl
@[simp] theorem State.setTouchQueue_links (s : State) (x : Screen) (q : List TouchEvent) : (s.setTouchQueue x q).links = s.links := rfl
@[simp] theorem State.setTouchQueue_radio (s : State) (x : Screen) (q : List TouchEvent) : (s.setTouchQueue x q).radio = s.radio := rfl
@[simp] theorem State.setTouchQueue_charged (s : State) (x : Screen) (q : List TouchEvent) : (s.setTouchQueue x q).charged = s.charged := rfl
@[simp] theorem State.setTouchQueue_arbs (s : State) (x : Screen) (q : List TouchEvent) : (s.setTouchQueue x q).arbs = s.arbs := rfl
@[simp] theorem State.setTouchQueue_policy (s : State) (x : Screen) (q : List TouchEvent) : (s.setTouchQueue x q).policy = s.policy := rfl
@[simp] theorem State.setTouchQueue_chans (s : State) (x : Screen) (q : List TouchEvent) : (s.setTouchQueue x q).chans = s.chans := rfl
@[simp] theorem State.setTouchQueue_exch (s : State) (x : Screen) (q : List TouchEvent) : (s.setTouchQueue x q).exch = s.exch := rfl
@[simp] theorem State.setTouchQueue_session (s : State) (x : Screen) (q : List TouchEvent) : (s.setTouchQueue x q).session = s.session := rfl
@[simp] theorem State.setTouchQueue_draws (s : State) (x : Screen) (q : List TouchEvent) : (s.setTouchQueue x q).draws = s.draws := rfl
@[simp] theorem State.setTouchQueue_run (s : State) (x : Screen) (q : List TouchEvent) : (s.setTouchQueue x q).run = s.run := rfl
@[simp] theorem State.setTouchQueue_notices (s : State) (x : Screen) (q : List TouchEvent) : (s.setTouchQueue x q).notices = s.notices := rfl
@[simp] theorem State.setTouchQueue_link (s : State) (x : Screen) (q : List TouchEvent) (y : Port) : (s.setTouchQueue x q).link y = s.link y := rfl
@[simp] theorem State.setTouchQueue_arb (s : State) (x : Screen) (q : List TouchEvent) (y : Port) : (s.setTouchQueue x q).arb y = s.arb y := rfl
@[simp] theorem State.setTouchQueue_notice (s : State) (x : Screen) (q : List TouchEvent) (y : Port) : (s.setTouchQueue x q).notice y = s.notice y := rfl
@[simp] theorem State.setTouchQueue_chargedTo (s : State) (x : Screen) (q : List TouchEvent) (y : Port) : (s.setTouchQueue x q).chargedTo y = s.chargedTo y := rfl
@[simp] theorem State.setTouchQueue_chan (s : State) (x : Screen) (q : List TouchEvent) (y : Chn) : (s.setTouchQueue x q).chan y = s.chan y := rfl
@[simp] theorem State.setTouchQueue_entry (s : State) (x : Screen) (q : List TouchEvent) (y : EntryIx) : (s.setTouchQueue x q).entry y = s.entry y := rfl
@[simp] theorem State.setTouchQueue_draw (s : State) (x : Screen) (q : List TouchEvent) (y : Screen) : (s.setTouchQueue x q).draw y = s.draw y := rfl

@[simp] theorem State.setPolicy_pending (s : State) (v : Policy) : (s.setPolicy v).pending = s.pending := rfl
@[simp] theorem State.setPolicy_time (s : State) (v : Policy) : (s.setPolicy v).time = s.time := rfl
@[simp] theorem State.setPolicy_links (s : State) (v : Policy) : (s.setPolicy v).links = s.links := rfl
@[simp] theorem State.setPolicy_radio (s : State) (v : Policy) : (s.setPolicy v).radio = s.radio := rfl
@[simp] theorem State.setPolicy_charged (s : State) (v : Policy) : (s.setPolicy v).charged = s.charged := rfl
@[simp] theorem State.setPolicy_arbs (s : State) (v : Policy) : (s.setPolicy v).arbs = s.arbs := rfl
@[simp] theorem State.setPolicy_chans (s : State) (v : Policy) : (s.setPolicy v).chans = s.chans := rfl
@[simp] theorem State.setPolicy_exch (s : State) (v : Policy) : (s.setPolicy v).exch = s.exch := rfl
@[simp] theorem State.setPolicy_session (s : State) (v : Policy) : (s.setPolicy v).session = s.session := rfl
@[simp] theorem State.setPolicy_draws (s : State) (v : Policy) : (s.setPolicy v).draws = s.draws := rfl
@[simp] theorem State.setPolicy_run (s : State) (v : Policy) : (s.setPolicy v).run = s.run := rfl
@[simp] theorem State.setPolicy_touch (s : State) (v : Policy) : (s.setPolicy v).touch = s.touch := rfl
@[simp] theorem State.setPolicy_notices (s : State) (v : Policy) : (s.setPolicy v).notices = s.notices := rfl
@[simp] theorem State.setPolicy_link (s : State) (v : Policy) (y : Port) : (s.setPolicy v).link y = s.link y := rfl
@[simp] theorem State.setPolicy_arb (s : State) (v : Policy) (y : Port) : (s.setPolicy v).arb y = s.arb y := rfl
@[simp] theorem State.setPolicy_notice (s : State) (v : Policy) (y : Port) : (s.setPolicy v).notice y = s.notice y := rfl
@[simp] theorem State.setPolicy_chargedTo (s : State) (v : Policy) (y : Port) : (s.setPolicy v).chargedTo y = s.chargedTo y := rfl
@[simp] theorem State.setPolicy_chan (s : State) (v : Policy) (y : Chn) : (s.setPolicy v).chan y = s.chan y := rfl
@[simp] theorem State.setPolicy_entry (s : State) (v : Policy) (y : EntryIx) : (s.setPolicy v).entry y = s.entry y := rfl
@[simp] theorem State.setPolicy_draw (s : State) (v : Policy) (y : Screen) : (s.setPolicy v).draw y = s.draw y := rfl
@[simp] theorem State.setPolicy_touchQueue (s : State) (v : Policy) (y : Screen) : (s.setPolicy v).touchQueue y = s.touchQueue y := rfl

@[simp] theorem State.setRadio_pending (s : State) (v : Radio) : (s.setRadio v).pending = s.pending := rfl
@[simp] theorem State.setRadio_time (s : State) (v : Radio) : (s.setRadio v).time = s.time := rfl
@[simp] theorem State.setRadio_links (s : State) (v : Radio) : (s.setRadio v).links = s.links := rfl
@[simp] theorem State.setRadio_charged (s : State) (v : Radio) : (s.setRadio v).charged = s.charged := rfl
@[simp] theorem State.setRadio_arbs (s : State) (v : Radio) : (s.setRadio v).arbs = s.arbs := rfl
@[simp] theorem State.setRadio_policy (s : State) (v : Radio) : (s.setRadio v).policy = s.policy := rfl
@[simp] theorem State.setRadio_chans (s : State) (v : Radio) : (s.setRadio v).chans = s.chans := rfl
@[simp] theorem State.setRadio_exch (s : State) (v : Radio) : (s.setRadio v).exch = s.exch := rfl
@[simp] theorem State.setRadio_session (s : State) (v : Radio) : (s.setRadio v).session = s.session := rfl
@[simp] theorem State.setRadio_draws (s : State) (v : Radio) : (s.setRadio v).draws = s.draws := rfl
@[simp] theorem State.setRadio_run (s : State) (v : Radio) : (s.setRadio v).run = s.run := rfl
@[simp] theorem State.setRadio_touch (s : State) (v : Radio) : (s.setRadio v).touch = s.touch := rfl
@[simp] theorem State.setRadio_notices (s : State) (v : Radio) : (s.setRadio v).notices = s.notices := rfl
@[simp] theorem State.setRadio_link (s : State) (v : Radio) (y : Port) : (s.setRadio v).link y = s.link y := rfl
@[simp] theorem State.setRadio_arb (s : State) (v : Radio) (y : Port) : (s.setRadio v).arb y = s.arb y := rfl
@[simp] theorem State.setRadio_notice (s : State) (v : Radio) (y : Port) : (s.setRadio v).notice y = s.notice y := rfl
@[simp] theorem State.setRadio_chargedTo (s : State) (v : Radio) (y : Port) : (s.setRadio v).chargedTo y = s.chargedTo y := rfl
@[simp] theorem State.setRadio_chan (s : State) (v : Radio) (y : Chn) : (s.setRadio v).chan y = s.chan y := rfl
@[simp] theorem State.setRadio_entry (s : State) (v : Radio) (y : EntryIx) : (s.setRadio v).entry y = s.entry y := rfl
@[simp] theorem State.setRadio_draw (s : State) (v : Radio) (y : Screen) : (s.setRadio v).draw y = s.draw y := rfl
@[simp] theorem State.setRadio_touchQueue (s : State) (v : Radio) (y : Screen) : (s.setRadio v).touchQueue y = s.touchQueue y := rfl

@[simp] theorem State.setTime_pending (s : State) (t : Time) : (s.setTime t).pending = s.pending := rfl
@[simp] theorem State.setTime_links (s : State) (t : Time) : (s.setTime t).links = s.links := rfl
@[simp] theorem State.setTime_radio (s : State) (t : Time) : (s.setTime t).radio = s.radio := rfl
@[simp] theorem State.setTime_charged (s : State) (t : Time) : (s.setTime t).charged = s.charged := rfl
@[simp] theorem State.setTime_arbs (s : State) (t : Time) : (s.setTime t).arbs = s.arbs := rfl
@[simp] theorem State.setTime_policy (s : State) (t : Time) : (s.setTime t).policy = s.policy := rfl
@[simp] theorem State.setTime_chans (s : State) (t : Time) : (s.setTime t).chans = s.chans := rfl
@[simp] theorem State.setTime_exch (s : State) (t : Time) : (s.setTime t).exch = s.exch := rfl
@[simp] theorem State.setTime_session (s : State) (t : Time) : (s.setTime t).session = s.session := rfl
@[simp] theorem State.setTime_draws (s : State) (t : Time) : (s.setTime t).draws = s.draws := rfl
@[simp] theorem State.setTime_run (s : State) (t : Time) : (s.setTime t).run = s.run := rfl
@[simp] theorem State.setTime_touch (s : State) (t : Time) : (s.setTime t).touch = s.touch := rfl
@[simp] theorem State.setTime_notices (s : State) (t : Time) : (s.setTime t).notices = s.notices := rfl
@[simp] theorem State.setTime_link (s : State) (t : Time) (y : Port) : (s.setTime t).link y = s.link y := rfl
@[simp] theorem State.setTime_arb (s : State) (t : Time) (y : Port) : (s.setTime t).arb y = s.arb y := rfl
@[simp] theorem State.setTime_notice (s : State) (t : Time) (y : Port) : (s.setTime t).notice y = s.notice y := rfl
@[simp] theorem State.setTime_chargedTo (s : State) (t : Time) (y : Port) : (s.setTime t).chargedTo y = s.chargedTo y := rfl
@[simp] theorem State.setTime_chan (s : State) (t : Time) (y : Chn) : (s.setTime t).chan y = s.chan y := rfl
@[simp] theorem State.setTime_entry (s : State) (t : Time) (y : EntryIx) : (s.setTime t).entry y = s.entry y := rfl
@[simp] theorem State.setTime_draw (s : State) (t : Time) (y : Screen) : (s.setTime t).draw y = s.draw y := rfl
@[simp] theorem State.setTime_touchQueue (s : State) (t : Time) (y : Screen) : (s.setTime t).touchQueue y = s.touchQueue y := rfl

/-! ## What each setter writes -/

@[simp] theorem State.setLink_link_self (s : State) (p : Port) (v : Link) : (s.setLink p v).link p = v := PerPort.get_set_self _ _ _
theorem State.setLink_link (s : State) (p : Port) (v : Link) (q : Port) :
    (s.setLink p v).link q = if q = p then v else s.link q := PerPort.get_set _ _ _ _

@[simp] theorem State.setArb_arb_self (s : State) (p : Port) (v : Arbiter) : (s.setArb p v).arb p = v := PerPort.get_set_self _ _ _
theorem State.setArb_arb (s : State) (p : Port) (v : Arbiter) (q : Port) :
    (s.setArb p v).arb q = if q = p then v else s.arb q := PerPort.get_set _ _ _ _

@[simp] theorem State.setNotice_notice_self (s : State) (p : Port) (v : Notice) : (s.setNotice p v).notice p = v := PerPort.get_set_self _ _ _
theorem State.setNotice_notice (s : State) (p : Port) (v : Notice) (q : Port) :
    (s.setNotice p v).notice q = if q = p then v else s.notice q := PerPort.get_set _ _ _ _

@[simp] theorem State.setCharged_chargedTo_self (s : State) (p : Port) (v : Nat) : (s.setCharged p v).chargedTo p = v := PerPort.get_set_self _ _ _
theorem State.setCharged_chargedTo (s : State) (p : Port) (v : Nat) (q : Port) :
    (s.setCharged p v).chargedTo q = if q = p then v else s.chargedTo q := PerPort.get_set _ _ _ _

theorem State.setChan_chan (s : State) (c : Chn) (v : Chan) (y : Chn) :
    (s.setChan c v).chan y = if y = c then v else s.chan y := by
  by_cases h : y = c
  · subst h; simp [State.setChan, State.chan, Vector.get_eq_getElem]
  · have h' : c.val ≠ y.val := fun k => h (Fin.ext k.symm)
    simp [State.setChan, State.chan, Vector.get_eq_getElem, h, h']
@[simp] theorem State.setChan_chan_self (s : State) (c : Chn) (v : Chan) : (s.setChan c v).chan c = v := by
  simp [State.setChan_chan]

theorem State.setEntry_entry (s : State) (e : EntryIx) (v : Entry) (y : EntryIx) :
    (s.setEntry e v).entry y = if y = e then v else s.entry y := by
  by_cases h : y = e
  · subst h; simp [State.setEntry, State.entry, Vector.get_eq_getElem]
  · have h' : e.val ≠ y.val := fun k => h (Fin.ext k.symm)
    simp [State.setEntry, State.entry, Vector.get_eq_getElem, h, h']
@[simp] theorem State.setEntry_entry_self (s : State) (e : EntryIx) (v : Entry) : (s.setEntry e v).entry e = v := by
  simp [State.setEntry_entry]

@[simp] theorem State.setDraw_draw_self (s : State) (x : Screen) (v : Draw) : (s.setDraw x v).draw x = v :=
  PerScreen.get_set_self _ _ _
theorem State.setDraw_draw (s : State) (x : Screen) (v : Draw) (z : Screen) :
    (s.setDraw x v).draw z = if z = x then v else s.draw z := PerScreen.get_set _ _ _ _
@[simp] theorem State.setTouchQueue_touchQueue_self (s : State) (x : Screen) (q : List TouchEvent) :
    (s.setTouchQueue x q).touchQueue x = q := PerScreen.get_set_self _ _ _
theorem State.setTouchQueue_touchQueue (s : State) (x : Screen) (q : List TouchEvent) (z : Screen) :
    (s.setTouchQueue x q).touchQueue z = if z = x then q else s.touchQueue z := PerScreen.get_set _ _ _ _
@[simp] theorem State.setRun_run (s : State) (v : Option Run) : (s.setRun v).run = v := rfl
@[simp] theorem State.setSession_session (s : State) (v : Session) : (s.setSession v).session = v := rfl
@[simp] theorem State.setTouch_touch (s : State) (v : Touch) : (s.setTouch v).touch = v := rfl
@[simp] theorem State.setPolicy_policy (s : State) (v : Policy) : (s.setPolicy v).policy = v := rfl
@[simp] theorem State.setRadio_radio (s : State) (v : Radio) : (s.setRadio v).radio = v := rfl
@[simp] theorem State.setTime_time (s : State) (t : Time) : (s.setTime t).time = t := rfl

/-! ## A setter after itself, and a setter with what stands -/

@[simp] theorem PerScreen.set_set {α : Type} (v : PerScreen α) (x : Screen) (y z : α) : (v.set x y).set x z = v.set x z := by
  cases x <;> rfl
@[simp] theorem PerScreen.set_get {α : Type} (v : PerScreen α) (x : Screen) : v.set x (v.get x) = v := by
  cases x <;> rfl
@[simp] theorem State.setLink_setLink (s : State) (p : Port) (u v : Link) : (s.setLink p u).setLink p v = s.setLink p v := by
  simp [State.setLink]
@[simp] theorem State.setLink_self (s : State) (p : Port) : s.setLink p (s.link p) = s := by
  simp [State.setLink, State.link]
@[simp] theorem State.setArb_setArb (s : State) (p : Port) (u v : Arbiter) : (s.setArb p u).setArb p v = s.setArb p v := by
  simp [State.setArb]
@[simp] theorem State.setArb_self (s : State) (p : Port) : s.setArb p (s.arb p) = s := by
  simp [State.setArb, State.arb]
@[simp] theorem State.setNotice_setNotice (s : State) (p : Port) (u v : Notice) :
    (s.setNotice p u).setNotice p v = s.setNotice p v := by simp [State.setNotice]
@[simp] theorem State.setNotice_self (s : State) (p : Port) : s.setNotice p (s.notice p) = s := by
  simp [State.setNotice, State.notice]
@[simp] theorem State.setCharged_setCharged (s : State) (p : Port) (m n : Nat) :
    (s.setCharged p m).setCharged p n = s.setCharged p n := by simp [State.setCharged]
@[simp] theorem State.setCharged_self (s : State) (p : Port) : s.setCharged p (s.chargedTo p) = s := by
  simp [State.setCharged, State.chargedTo]
@[simp] theorem State.setChan_setChan (s : State) (c : Chn) (u v : Chan) : (s.setChan c u).setChan c v = s.setChan c v := by
  simp [State.setChan]
@[simp] theorem State.setChan_self (s : State) (c : Chn) : s.setChan c (s.chan c) = s := by
  simp [State.setChan, State.chan, Vector.get_eq_getElem]
@[simp] theorem State.setEntry_setEntry (s : State) (e : EntryIx) (u v : Entry) :
    (s.setEntry e u).setEntry e v = s.setEntry e v := by simp [State.setEntry]
@[simp] theorem State.setEntry_self (s : State) (e : EntryIx) : s.setEntry e (s.entry e) = s := by
  simp [State.setEntry, State.entry, Vector.get_eq_getElem]
@[simp] theorem State.setDraw_setDraw (s : State) (x : Screen) (u v : Draw) : (s.setDraw x u).setDraw x v = s.setDraw x v := by
  simp [State.setDraw]

end Sys2Proof.Machine
end

