-- ==== Sys2Proof/Laws/Display.lean ====
section
/-! SUPPORT. What the passes of the display filter do with a frame: the cursor steps, the masked pixels passed over, the pixels taken
for a run, and the blocks a formation releases; and what the teardown of a draw state does. -/

namespace Sys2Proof.Machine

/-- The position of the cursor `k` advances after `c` (R128). -/
def steps (w : Window) (c : Nat × Nat) (k : Nat) : Nat × Nat := (fun c => advance w c.1 c.2)^[k] c

@[simp] theorem steps_zero (w : Window) (c : Nat × Nat) : steps w c 0 = c := rfl

theorem steps_succ (w : Window) (c : Nat × Nat) (k : Nat) : steps w c (k + 1) = steps w (advance w c.1 c.2) k :=
  Function.iterate_succ_apply _ _ _

theorem steps_add (w : Window) (c : Nat × Nat) (j k : Nat) : steps w c (j + k) = steps w (steps w c j) k := by
  unfold steps
  rw [Nat.add_comm, Function.iterate_add_apply]

theorem cursorAfter_eq (d : Draw) (k : Nat) : Safety.cursorAfter d k = steps d.window (d.cx, d.cy) k := rfl

theorem lineEnd_iff (w : Window) (cx cy : Nat) : lineEnd w cx cy = true ↔ Safety.EndsLine w (cx, cy) := by
  unfold lineEnd Safety.EndsLine
  cases w.order <;> simp

/-- The pass over masked pixels stops at the first unmasked one (R131 step 2). -/
theorem skipMasked_spec (mask : Nat → Nat → Bool) (w : Window) (cx cy : Nat) (l : List Half) :
    ∃ j, j ≤ l.length ∧ (∀ k, k < j → mask (steps w (cx, cy) k).1 (steps w (cx, cy) k).2 = true) ∧
      (j < l.length → mask (steps w (cx, cy) j).1 (steps w (cx, cy) j).2 = false) ∧
      skipMasked mask w cx cy l = (l.drop j, j, (steps w (cx, cy) j).1, (steps w (cx, cy) j).2) := by
  induction l generalizing cx cy with
  | nil => exact ⟨0, Nat.le_refl _, by simp, by simp, by simp [skipMasked]⟩
  | cons v vs ih =>
    unfold skipMasked
    split
    · rename_i h
      obtain ⟨j, hj, skipped, stop, eq⟩ := ih (advance w cx cy).1 (advance w cx cy).2
      have next (k : Nat) : steps w (cx, cy) (k + 1) = steps w ((advance w cx cy).1, (advance w cx cy).2) k :=
        steps_succ _ _ _
      refine ⟨j + 1, by simp; omega, ?_, ?_, by dsimp only; rw [eq]; simp [next]⟩
      · intro k hk
        cases k with
        | zero => exact h
        | succ k => rw [next]; exact skipped k (by omega)
      · intro hj
        rw [next]
        exact stop (by simpa using hj)
    · rename_i h
      exact ⟨0, by simp, by simp, fun _ => by simpa using h, by simp⟩

/-- A run takes pixels up to the first line end, which it includes, or the first masked pixel, or the end of the frame (R131 step 3). -/
theorem gather_spec (mask : Nat → Nat → Bool) (w : Window) (cx cy : Nat) (l : List Half) :
    ∃ m, m ≤ l.length ∧ (∀ k, k < m → mask (steps w (cx, cy) k).1 (steps w (cx, cy) k).2 = false) ∧
      (∀ k, k + 1 < m → ¬ Safety.EndsLine w (steps w (cx, cy) k)) ∧
      ((0 < m ∧ Safety.EndsLine w (steps w (cx, cy) (m - 1))) ∨ m = l.length ∨
        mask (steps w (cx, cy) m).1 (steps w (cx, cy) m).2 = true) ∧
      gather mask w cx cy l = (l.take m, l.drop m, (steps w (cx, cy) m).1, (steps w (cx, cy) m).2) := by
  induction l generalizing cx cy with
  | nil => exact ⟨0, Nat.le_refl _, by simp, by simp, by simp, by simp [gather]⟩
  | cons v vs ih =>
    have next (k : Nat) : steps w (cx, cy) (k + 1) = steps w ((advance w cx cy).1, (advance w cx cy).2) k :=
      steps_succ _ _ _
    unfold gather
    split
    · rename_i h
      exact ⟨0, by simp, by simp, by simp, .inr (.inr (by simpa using h)), by simp⟩
    · rename_i h
      dsimp only
      split
      · rename_i wraps
        refine ⟨1, by simp, ?_, by intro k hk; omega, .inl ⟨by omega, by simpa using (lineEnd_iff w cx cy).mp wraps⟩,
          by simp [next]⟩
        intro k hk
        obtain rfl : k = 0 := by omega
        simpa using h
      · rename_i wraps
        obtain ⟨m, hm, taken, inside, stop, eq⟩ := ih (advance w cx cy).1 (advance w cx cy).2
        refine ⟨m + 1, by simp; omega, ?_, ?_, ?_, by rw [eq]; simp [next]⟩
        · intro k hk
          cases k with
          | zero => simpa using h
          | succ k => rw [next]; exact taken k (by omega)
        · intro k hk
          cases k with
          | zero => simpa using fun hh => wraps ((lineEnd_iff w cx cy).mpr hh)
          | succ k => rw [next]; exact inside k (by omega)
        · rcases stop with ⟨pos, ends⟩ | whole | masked
          · left
            refine ⟨by omega, ?_⟩
            have : m + 1 - 1 = (m - 1) + 1 := by omega
            rw [this, next]
            exact ends
          · exact .inr (.inl (by simp; omega))
          · exact .inr (.inr (by rw [next]; exact masked))

/-- A formation only adds to the blocks released before it. -/
theorem form_released (x : Screen) (mask : Nat → Nat → Bool) (q : List DrawFrame) (w : Window) (cx cy : Nat)
    (next : Option Nat) (n : Nat) :
    form x mask q w cx cy next n =
      { form x mask q w cx cy next 0 with released := n + (form x mask q w cx cy next 0).released } := by
  induction q generalizing w cx cy next n with
  | nil => simp [form]
  | cons f q ih =>
    cases f with
    | window w' k =>
      simp only [form]
      rw [ih, ih w' _ _ _ (0 + k)]
      simp [Nat.add_assoc]
    | pixels px k =>
      simp only [form]
      split
      · rw [ih, ih _ _ _ _ (0 + k)]
        simp [Nat.add_assoc]
      · split <;> simp

/-! ## The teardown of a draw state (R138) -/

theorem tearDraw_draw (x y : Screen) (s : State) :
    (tearDraw x s).draw y = if y = x then Draw.initial else s.draw y := by
  unfold tearDraw
  cases hr : s.run with
  | none => cases x <;> cases y <;> rfl
  | some r => dsimp only; split <;> cases x <;> cases y <;> rfl

/-- Where the run in progress is not the last of the frame at the head, that frame keeps its blocks until the run completes. -/
theorem tearDraw_cut (x : Screen) (s : State) (r : Run) (hr : s.run = some r) (hs : r.source = .frame x) (hl : r.last = none)
    (f : DrawFrame) (q : List DrawFrame) (hq : (s.draw x).queue = f :: q) :
    (tearDraw x s).run = some { r with last := some f.blocks } ∧
      (tearDraw x s).charged = s.charged.set (portOfScreen x) (s.chargedTo (portOfScreen x) - (q.map DrawFrame.blocks).sum) := by
  unfold tearDraw
  rw [hr, hq]
  dsimp only
  rw [if_pos ⟨hs, hl⟩]
  refine ⟨rfl, ?_⟩
  cases x <;> simp [release, State.setCharged, State.setDraw, State.setRun, State.chargedTo, portOfScreen]

/-- Otherwise the run in progress stands, and every frame of the queue gives its blocks back. -/
theorem tearDraw_whole (x : Screen) (s : State) (h : ∀ r, s.run = some r → r.source = .frame x → r.last.isSome = true) :
    (tearDraw x s).run = s.run ∧
      (tearDraw x s).charged =
        s.charged.set (portOfScreen x) (s.chargedTo (portOfScreen x) - ((s.draw x).queue.map DrawFrame.blocks).sum) := by
  unfold tearDraw
  cases hr : s.run with
  | none => exact ⟨hr, by cases x <;> rfl⟩
  | some r =>
    dsimp only
    rw [if_neg]
    · exact ⟨hr, by cases x <;> rfl⟩
    · rintro ⟨hs, hl⟩
      have := h r hr hs
      rw [hl] at this
      cases this

end Sys2Proof.Machine
end

