-- ==== Sys2Proof/Laws/Settle.lean ====
section
/-! SUPPORT. What the grants of the egress arbiters and the take of the panel arbiter leave as it was, and with them `settle`,
which ends every event. -/

namespace Sys2Proof.Machine

/-! ## Grants -/

/-- From `s` to `t` only links, radio signals, arbiters, channels, exchanges and notices may have changed. -/
structure Granted (s t : State) : Prop where
  pending : t.pending = s.pending
  time : t.time = s.time
  charged : t.charged = s.charged
  policy : t.policy = s.policy
  session : t.session = s.session
  draws : t.draws = s.draws
  run : t.run = s.run
  touch : t.touch = s.touch

namespace Granted

theorem refl (s : State) : Granted s s := ⟨rfl, rfl, rfl, rfl, rfl, rfl, rfl, rfl⟩

theorem trans {s t u : State} (h : Granted s t) (k : Granted t u) : Granted s u :=
  ⟨k.1.trans h.1, k.2.trans h.2, k.3.trans h.3, k.4.trans h.4, k.5.trans h.5, k.6.trans h.6, k.7.trans h.7, k.8.trans h.8⟩

theorem setLink (s : State) (p : Port) (v : Link) : Granted s (s.setLink p v) := ⟨rfl, rfl, rfl, rfl, rfl, rfl, rfl, rfl⟩
theorem setArb (s : State) (p : Port) (v : Arbiter) : Granted s (s.setArb p v) := ⟨rfl, rfl, rfl, rfl, rfl, rfl, rfl, rfl⟩
theorem setNotice (s : State) (p : Port) (v : Notice) : Granted s (s.setNotice p v) :=
  ⟨rfl, rfl, rfl, rfl, rfl, rfl, rfl, rfl⟩
theorem setChan (s : State) (c : Chn) (v : Chan) : Granted s (s.setChan c v) := ⟨rfl, rfl, rfl, rfl, rfl, rfl, rfl, rfl⟩
theorem setEntry (s : State) (e : EntryIx) (v : Entry) : Granted s (s.setEntry e v) :=
  ⟨rfl, rfl, rfl, rfl, rfl, rfl, rfl, rfl⟩
theorem setRadio (s : State) (v : Radio) : Granted s (s.setRadio v) := ⟨rfl, rfl, rfl, rfl, rfl, rfl, rfl, rfl⟩

end Granted

theorem startTx_granted (p : Port) (ty : Byte) (body : List Byte) (src : TxSource) (s : State) :
    Granted s (startTx p ty body src s) := by
  unfold startTx
  dsimp only
  split
  · exact ((Granted.setArb _ _ _).trans (Granted.setLink _ _ _)).trans (Granted.setRadio _ _)
  · exact (Granted.setArb _ _ _).trans (Granted.setLink _ _ _)

theorem grantPart_granted (p : Port) (f : IFrame) (rest : List IFrame) (s : State) :
    Granted s (grantPart p f rest s) := by
  unfold grantPart
  dsimp only
  split
  · exact ((Granted.setArb _ _ _).trans (Granted.setNotice _ _ _)).trans (startTx_granted _ _ _ _ _)
  · exact (Granted.setArb _ _ _).trans (startTx_granted _ _ _ _ _)

theorem grantTouch_granted (p : Port) (ev : TouchEvent) (s : State) : Granted s (grantTouch p ev s) :=
  startTx_granted _ _ _ _ _

theorem grantReply_granted (p : Port) (c : Chn) (s : State) : Granted s (grantReply p c s) := by
  unfold grantReply
  split
  · exact ((Granted.setChan _ _ _).trans (Granted.setArb _ _ _)).trans (startTx_granted _ _ _ _ _)
  · exact Granted.refl s

theorem forwardRequest_granted (p : Port) (c : Chn) (e : EntryIx) (s : State) : Granted s (forwardRequest p c e s) :=
  (Granted.setEntry _ _ _).trans (startTx_granted _ _ _ _ _)

theorem forwardPost_granted (p : Port) (c : Chn) (m : PostItem) (s : State) : Granted s (forwardPost p c m s) := by
  unfold forwardPost
  dsimp only
  split
  · split
    · exact (Granted.setChan _ _ _).trans (startTx_granted _ _ _ _ _)
    · exact startTx_granted _ _ _ _ _
  · exact startTx_granted _ _ _ _ _

theorem grantForward_granted (p : Port) (c : Chn) (s : State) : Granted s (grantForward p c s) := by
  unfold grantForward
  dsimp only
  split
  · exact ((Granted.setArb _ _ _).trans (Granted.setChan _ _ _)).trans (forwardRequest_granted _ _ _ _)
  · split
    · exact ((Granted.setArb _ _ _).trans (Granted.setChan _ _ _)).trans (forwardRequest_granted _ _ _ _)
    · exact ((Granted.setArb _ _ _).trans (Granted.setChan _ _ _)).trans (forwardPost_granted _ _ _ _)
    · exact Granted.setArb _ _ _

theorem grant_granted (p : Port) (s : State) : Granted s (grant p s) := by
  unfold grant
  split
  · split
    · exact grantPart_granted _ _ _ _
    · split
      · exact grantTouch_granted _ _ _
      · split
        · exact grantReply_granted _ _ _
        · split
          · exact grantForward_granted _ _ _
          · exact Granted.refl s
  · exact Granted.refl s

theorem grantRound_granted (s : State) : Granted s (grantRound s) :=
  ((grant_granted .ad s).trans (grant_granted .pd _)).trans (grant_granted .rd _)

theorem grants_granted (s : State) : Granted s (grants s) :=
  ((grantRound_granted s).trans (grantRound_granted _)).trans (grantRound_granted _)

/-- A grant on a link that is not UP, or whose transmit direction is busy, changes nothing (R71, R84). -/
theorem grant_of_not_mayGrant {p : Port} {s : State} (h : mayGrant s p = false) : grant p s = s := by
  simp [grant, h]

/-! ## The take of the panel arbiter -/

/-- From `s` to `t` only block charges, draw states, the run in progress and the session record's fill rows may have
changed. -/
structure Taken (s t : State) : Prop where
  pending : t.pending = s.pending
  time : t.time = s.time
  links : t.links = s.links
  radio : t.radio = s.radio
  arbs : t.arbs = s.arbs
  policy : t.policy = s.policy
  chans : t.chans = s.chans
  exch : t.exch = s.exch
  touch : t.touch = s.touch
  notices : t.notices = s.notices
  state : t.session.state = s.session.state
  secureInd : t.session.secureInd = s.session.secureInd
  limitAt : t.session.limitAt = s.session.limitAt
  record : t.session.record = s.session.record ∨
    t.session.record = s.session.record.map
      (fun r => { r with fill := r.fill.map (fun f => { f with next := f.next + 1 }) })

namespace Taken

theorem refl (s : State) : Taken s s := ⟨rfl, rfl, rfl, rfl, rfl, rfl, rfl, rfl, rfl, rfl, rfl, rfl, rfl, .inl rfl⟩

/-- A take followed by a change of charges, draw states and the run. -/
theorem takeFor {s t : State} (h : Taken s t) (x : Screen) : Taken s (Machine.takeFor x t) :=
  ⟨h.pending, h.time, h.links, h.radio, h.arbs, h.policy, h.chans, h.exch, h.touch, h.notices, h.state, h.secureInd,
    h.limitAt, h.record⟩

end Taken

theorem takeFor_session (x : Screen) (s : State) : (takeFor x s).session = s.session := rfl

theorem takePd_taken (s : State) : Taken s (takePd s) ∧ (takePd s).session = s.session := by
  unfold takePd
  split
  · exact ⟨Taken.refl s, rfl⟩
  · exact ⟨(Taken.refl s).takeFor .pd, rfl⟩

theorem takeFill_taken (s : State) : Taken s (takeFill s) := by
  unfold takeFill
  split
  · exact ⟨rfl, rfl, rfl, rfl, rfl, rfl, rfl, rfl, rfl, rfl, rfl, rfl, rfl, .inr rfl⟩
  · exact Taken.refl s

theorem takeAd_taken {s t : State} (h : Taken s t) : Taken s (takeAd t) := by
  unfold takeAd
  split
  · exact h.takeFor .ad
  · exact h

theorem panelTake_taken (s : State) : Taken s (panelTake s) := by
  unfold panelTake
  split
  · have h := takePd_taken s
    have k := takeFill_taken (takePd s)
    exact takeAd_taken
      ⟨k.pending.trans h.1.pending, k.time.trans h.1.time, k.links.trans h.1.links, k.radio.trans h.1.radio,
        k.arbs.trans h.1.arbs, k.policy.trans h.1.policy, k.chans.trans h.1.chans, k.exch.trans h.1.exch,
        k.touch.trans h.1.touch, k.notices.trans h.1.notices, k.state.trans h.1.state, k.secureInd.trans h.1.secureInd,
        k.limitAt.trans h.1.limitAt, by rw [← h.2]; exact k.record⟩
  · exact Taken.refl s

/-- A take while a run is in progress changes nothing (R134). -/
theorem panelTake_of_run {s : State} (h : s.run.isSome = true) : panelTake s = s := by
  simp [panelTake, Option.isNone_iff_eq_none, Option.isSome_iff_ne_none.mp h]

/-! ## What every event ends with -/

@[simp] theorem settle_pending (s : State) : (settle s).pending = s.pending :=
  (grants_granted _).pending.trans (panelTake_taken s).pending
@[simp] theorem settle_time (s : State) : (settle s).time = s.time :=
  (grants_granted _).time.trans (panelTake_taken s).time
@[simp] theorem settle_policy (s : State) : (settle s).policy = s.policy :=
  (grants_granted _).policy.trans (panelTake_taken s).policy
@[simp] theorem settle_touch (s : State) : (settle s).touch = s.touch :=
  (grants_granted _).touch.trans (panelTake_taken s).touch
@[simp] theorem settle_session_state (s : State) : (settle s).session.state = s.session.state := by
  have h : (settle s).session = (panelTake s).session := (grants_granted _).session
  rw [h, (panelTake_taken s).state]
@[simp] theorem settle_secureInd (s : State) : (settle s).session.secureInd = s.session.secureInd := by
  have h : (settle s).session = (panelTake s).session := (grants_granted _).session
  rw [h, (panelTake_taken s).secureInd]
@[simp] theorem settle_limitAt (s : State) : (settle s).session.limitAt = s.session.limitAt := by
  have h : (settle s).session = (panelTake s).session := (grants_granted _).session
  rw [h, (panelTake_taken s).limitAt]

end Sys2Proof.Machine
end

