-- ==== Sys2Proof/Laws/Traffic.lean ====
section
/-! SUPPORT. What the operations on links, channels and exchanges leave as it was: each is a `Traffic` step, which touches
links, block charges, arbiters, channels, exchanges and notices only. -/

namespace Sys2Proof.Machine

/-- From `s` to `t` only links, block charges, arbiters, channels, exchanges and notices may have changed. -/
structure Traffic (s t : State) : Prop where
  pending : t.pending = s.pending
  time : t.time = s.time
  radio : t.radio = s.radio
  policy : t.policy = s.policy
  session : t.session = s.session
  draws : t.draws = s.draws
  run : t.run = s.run
  touch : t.touch = s.touch

namespace Traffic

theorem refl (s : State) : Traffic s s := ⟨rfl, rfl, rfl, rfl, rfl, rfl, rfl, rfl⟩

theorem trans {s t u : State} (h : Traffic s t) (k : Traffic t u) : Traffic s u :=
  ⟨k.1.trans h.1, k.2.trans h.2, k.3.trans h.3, k.4.trans h.4, k.5.trans h.5, k.6.trans h.6, k.7.trans h.7, k.8.trans h.8⟩

/-- A fold of traffic steps is a traffic step. -/
theorem foldl {α : Type} {f : State → α → State} (h : ∀ s a, Traffic s (f s a)) (l : List α) (s : State) :
    Traffic s (l.foldl f s) := by
  induction l generalizing s with
  | nil => exact refl s
  | cons a l ih => exact (h s a).trans (ih _)

theorem setLink (s : State) (p : Port) (v : Link) : Traffic s (s.setLink p v) := ⟨rfl, rfl, rfl, rfl, rfl, rfl, rfl, rfl⟩
theorem setArb (s : State) (p : Port) (v : Arbiter) : Traffic s (s.setArb p v) := ⟨rfl, rfl, rfl, rfl, rfl, rfl, rfl, rfl⟩
theorem setNotice (s : State) (p : Port) (v : Notice) : Traffic s (s.setNotice p v) :=
  ⟨rfl, rfl, rfl, rfl, rfl, rfl, rfl, rfl⟩
theorem setCharged (s : State) (p : Port) (n : Nat) : Traffic s (s.setCharged p n) :=
  ⟨rfl, rfl, rfl, rfl, rfl, rfl, rfl, rfl⟩
theorem setChan (s : State) (c : Chn) (v : Chan) : Traffic s (s.setChan c v) := ⟨rfl, rfl, rfl, rfl, rfl, rfl, rfl, rfl⟩
theorem setEntry (s : State) (e : EntryIx) (v : Entry) : Traffic s (s.setEntry e v) :=
  ⟨rfl, rfl, rfl, rfl, rfl, rfl, rfl, rfl⟩

end Traffic

open Traffic

/-! ## Message buffer -/

theorem charge_traffic (p : Port) (n : Nat) (s : State) : Traffic s (charge p n s) := setCharged _ _ _
theorem release_traffic (p : Port) (n : Nat) (s : State) : Traffic s (release p n s) := setCharged _ _ _
theorem takeReserve_traffic (p : Port) (s : State) : Traffic s (takeReserve p s) := setLink _ _ _
theorem freeReserve_traffic (p : Port) (s : State) : Traffic s (freeReserve p s) := setLink _ _ _
theorem countError_traffic (p : Port) (s : State) : Traffic s (countError p s) := setLink _ _ _
theorem pushPart_traffic (p : Port) (f : IFrame) (s : State) : Traffic s (pushPart p f s) := setArb _ _ _

theorem releaseBlock_traffic (p : Port) (b : BlockRef) (s : State) : Traffic s (releaseBlock p b s) := by
  cases b
  · exact release_traffic _ _ _
  · exact freeReserve_traffic _ _
  · exact refl s

theorem releaseHeld_traffic (h : Option Held) (s : State) : Traffic s (releaseHeld h s) := by
  cases h
  · exact refl s
  · exact release_traffic _ _ _

theorem answer_traffic (p : Port) (n : Nat) (f : PartFrame) (s : State) : Traffic s (answer p n f s) :=
  (release_traffic _ _ _).trans (pushPart_traffic _ _ _)

theorem verdict_traffic (p : Port) (n : Nat) (why : Reason) (ty : FrameType) (ids : List Byte) (s : State) :
    Traffic s (verdict p n why ty ids s) := answer_traffic _ _ _ _

/-! ## Notice unit -/

theorem makeNotice_traffic (p : Port) (s : State) : Traffic s (makeNotice p s) :=
  (setNotice _ _ _).trans (pushPart_traffic _ _ _)

theorem latch_traffic (p : Port) (c : Condition) (s : State) : Traffic s (latch p c s) := by
  unfold latch
  dsimp only
  split
  · exact refl s
  · split
    · split
      · exact (setNotice _ _ _).trans (makeNotice_traffic _ _)
      · exact setNotice _ _ _
      · exact (setNotice _ _ _).trans (setNotice _ _ _)
    · exact setNotice _ _ _

theorem latchAll_traffic (c : Condition) (s : State) : Traffic s (latchAll c s) :=
  (latch_traffic _ _ _).trans ((latch_traffic _ _ _).trans (latch_traffic _ _ _))

theorem replaceMask_traffic (p : Port) (m : Half) (s : State) : Traffic s (replaceMask p m s) := by
  unfold replaceMask
  dsimp only
  split
  · exact (setNotice _ _ _).trans (makeNotice_traffic _ _)
  · exact setNotice _ _ _

theorem noticeSent_traffic (p : Port) (s : State) : Traffic s (noticeSent p s) := by
  unfold noticeSent
  dsimp only
  split
  · exact (setNotice _ _ _).trans (makeNotice_traffic _ _)
  · exact setNotice _ _ _

theorem noticeDiscarded_traffic (p : Port) (s : State) : Traffic s (noticeDiscarded p s) := setNotice _ _ _

theorem takeNotices_traffic (p : Port) (s : State) : Traffic s (takeNotices p s) := by
  unfold takeNotices
  dsimp only
  split
  · exact (setNotice _ _ _).trans (setArb _ _ _)
  · exact setNotice _ _ _

theorem clearNotices_traffic (p : Port) (s : State) : Traffic s (clearNotices p s) := setNotice _ _ _

/-! ## Exchanges -/

theorem freeIfDone_traffic (e : EntryIx) (s : State) : Traffic s (freeIfDone e s) := by
  unfold freeIfDone
  dsimp only
  split
  · exact setEntry _ _ _
  · exact refl s

theorem countDown_traffic (c : Chn) (s : State) : Traffic s (countDown c s) := setChan _ _ _

theorem replyGone_traffic (e : EntryIx) (s : State) : Traffic s (replyGone e s) :=
  (countDown_traffic _ _).trans ((setEntry _ _ _).trans (freeIfDone_traffic _ _))

theorem withdrawGone_traffic (e : EntryIx) (s : State) : Traffic s (withdrawGone e s) :=
  (setEntry _ _ _).trans (freeIfDone_traffic _ _)

theorem dropRequest_traffic (e : EntryIx) (s : State) : Traffic s (dropRequest e s) := by
  unfold dropRequest
  dsimp only
  split
  · exact (setArb _ _ _).trans (setEntry _ _ _)
  · exact (release_traffic _ _ _).trans (setEntry _ _ _)

theorem makeWithdraw_traffic (e : EntryIx) (s : State) : Traffic s (makeWithdraw e s) := by
  unfold makeWithdraw
  dsimp only
  split
  · exact (setEntry _ _ _).trans (pushPart_traffic _ _ _)
  · exact refl s

theorem joinReturn_traffic (e : EntryIx) (f : Option ReplyFrame) (s : State) : Traffic s (joinReturn e f s) := setChan _ _ _
theorem enterReplying_traffic (e : EntryIx) (st : Status) (s : State) : Traffic s (enterReplying e st s) := setEntry _ _ _
theorem leaveRetries_traffic (e : EntryIx) (s : State) : Traffic s (leaveRetries e s) := setChan _ _ _
theorem leaveForward_traffic (e : EntryIx) (s : State) : Traffic s (leaveForward e s) := setChan _ _ _

theorem endExchange_traffic (e : EntryIx) (st : Status) (s : State) : Traffic s (endExchange e st s) := by
  have h := ((enterReplying_traffic e st s).trans (dropRequest_traffic e _)).trans (joinReturn_traffic e none _)
  unfold endExchange
  dsimp only
  split
  · exact h.trans (makeWithdraw_traffic _ _)
  · exact h

theorem endAll_traffic (es : List EntryIx) (st : Status) (s : State) : Traffic s (endAll es st s) :=
  Traffic.foldl (fun s e => endExchange_traffic e st s) es s

theorem autoHoldReply_traffic (e : EntryIx) (s : State) : Traffic s (autoHoldReply e s) := by
  unfold autoHoldReply
  dsimp only
  split
  · exact setChan _ _ _
  · exact refl _

theorem deliverReply_traffic (e : EntryIx) (m : ReplyBody) (n : Nat) (s : State) : Traffic s (deliverReply e m n s) :=
  Traffic.trans (Traffic.trans (Traffic.trans (Traffic.trans (leaveRetries_traffic _ _) (enterReplying_traffic _ _ _))
    (dropRequest_traffic _ _)) (joinReturn_traffic _ _ _)) (autoHoldReply_traffic _ _)

theorem extendEntry_traffic (e : EntryIx) (s : State) : Traffic s (extendEntry e s) := by
  unfold extendEntry
  dsimp only
  split
  · exact setEntry _ _ _
  · exact refl s

/-! ## Channels -/

theorem setOwnHold_traffic (c : Chn) (v : Bool) (s : State) : Traffic s (setOwnHold c v s) := setChan _ _ _

theorem holdPeerChannels_traffic (p : Port) (s : State) : Traffic s (holdPeerChannels p s) := by
  refine Traffic.foldl (fun s c => ?_) _ s
  split
  · split
    · exact setOwnHold_traffic _ _ _
    · exact refl s
  · exact refl s

theorem discardPost_traffic (c : Chn) (why : Reason) (m : PostItem) (s : State) : Traffic s (discardPost c why m s) :=
  verdict_traffic _ _ _ _ _ _

theorem dropPost_traffic (m : PostItem) (s : State) : Traffic s (dropPost m s) := release_traffic _ _ _

theorem barChannel_traffic (c : Chn) (o : Port) (s : State) : Traffic s (barChannel c o s) :=
  (setChan s _ _).trans ((latch_traffic _ _ _).trans ((setChan _ _ _).trans ((endAll_traffic _ _ _).trans
    ((setChan _ _ _).trans ((endAll_traffic _ _ _).trans
      (Traffic.foldl (fun s m => discardPost_traffic c .barred m s) _ _))))))

theorem barOnTimeout_traffic (e : EntryIx) (s : State) : Traffic s (barOnTimeout e s) := by
  unfold barOnTimeout
  dsimp only
  split
  · exact barChannel_traffic _ _ _
  · exact refl s

/-- A debit leaves the credit within CreditBase (R30). -/
theorem creditLeft_le {ch : Chan} {r : ChannelRecord} (now : Time) (len : Nat) (h : ch.credit ≤ r.creditBase) :
    creditLeft ch now r len ≤ r.creditBase := by
  unfold creditLeft
  split
  · exact Nat.le_refl _
  · exact Nat.le_trans (Nat.sub_le _ _) h

/-- A refill and an admission in one millisecond, the refill first, leave the credit at CreditBase (R31). -/
theorem creditLeft_refilled {ch : Chan} {now : Time} (r : ChannelRecord) (len : Nat) (h : ch.lastRefill = some now) :
    creditLeft ch now r len = r.creditBase := by
  rw [creditLeft, if_pos h]

/-- In any other millisecond an admission costs what its message costs (R26, R30). -/
theorem creditLeft_costs {ch : Chan} {now : Time} (r : ChannelRecord) (len : Nat) (h : ch.lastRefill ≠ some now) :
    creditLeft ch now r len = ch.credit - cost len := by
  rw [creditLeft, if_neg h]

theorem debit_chan (c d : Chn) (r : ChannelRecord) (len : Nat) (s : State) :
    (debit c r len s).chan d =
      if d = c ∧ r.creditBase ≠ 0 then { s.chan c with credit := creditLeft (s.chan c) s.time r len } else s.chan d := by
  unfold debit
  split
  · rename_i h; simp [h]
  · rename_i h; simp [h, State.setChan_chan]

theorem debit_traffic (c : Chn) (r : ChannelRecord) (n : Nat) (s : State) : Traffic s (debit c r n s) := by
  unfold debit
  split
  · exact refl s
  · exact setChan _ _ _

theorem admitRequest_traffic (p : Port) (c : Chn) (r : ChannelRecord) (m : Message) (n : Nat) (s : State) :
    Traffic s (admitRequest p c r m n s) := by
  unfold admitRequest
  split
  · exact (setEntry _ _ _).trans ((debit_traffic _ _ _ _).trans (setChan _ _ _))
  · exact refl s

theorem admitPost_traffic (p : Port) (c : Chn) (r : ChannelRecord) (m : Message) (n : Nat) (s : State) :
    Traffic s (admitPost p c r m n s) := (debit_traffic _ _ _ _).trans (setChan _ _ _)

/-! ## Switch, FULL_CLEAR and teardown, channel by channel -/

theorem recheckRetry_traffic (c : Chn) (e : EntryIx) (s : State) : Traffic s (recheckRetry c e s) := by
  unfold recheckRetry
  split
  · exact refl s
  · exact (leaveRetries_traffic _ _).trans (endExchange_traffic _ _ _)

theorem recheckItem_traffic (c : Chn) (i : FwdItem) (s : State) : Traffic s (recheckItem c i s) := by
  cases i <;> simp only [recheckItem] <;> split
  · exact refl s
  · exact (leaveForward_traffic _ _).trans (endExchange_traffic _ _ _)
  · exact refl s
  · exact discardPost_traffic _ _ _ _

theorem recheck_traffic (c : Chn) (s : State) : Traffic s (recheck c s) :=
  (Traffic.foldl (fun s e => recheckRetry_traffic c e s) _ s).trans
    ((Traffic.foldl (fun s i => recheckItem_traffic c i s) _ _).trans (setChan _ _ _))

theorem switchChannel_traffic (v : Area) (c : Chn) (s : State) : Traffic s (switchChannel v c s) :=
  (setChan _ _ _).trans (recheck_traffic _ _)

theorem clearChannel_traffic (c : Chn) (s : State) : Traffic s (clearChannel c s) :=
  (setChan s _ _).trans ((endAll_traffic _ _ _).trans ((setChan _ _ _).trans ((endAll_traffic _ _ _).trans
    ((endAll_traffic _ _ _).trans ((Traffic.foldl (fun s m => discardPost_traffic c .revoked m s) _ _).trans
      (setChan _ _ _))))))

theorem resetPointers_traffic (s : State) : Traffic s (resetPointers s) :=
  Traffic.foldl (fun s p => setArb s p _) _ s

theorem discardPart_traffic (p : Port) (f : IFrame) (s : State) : Traffic s (discardPart p f s) := by
  unfold discardPart
  split
  · exact noticeDiscarded_traffic _ _
  · exact withdrawGone_traffic _ _
  all_goals exact releaseBlock_traffic _ _ _

theorem discardParts_traffic (p : Port) (s : State) : Traffic s (discardParts p s) :=
  (setArb s p _).trans (Traffic.foldl (fun s f => discardPart_traffic p f s) _ _)

theorem discardReply_traffic (e : EntryIx) (s : State) : Traffic s (discardReply e s) :=
  (setChan s _ _).trans (release_traffic _ _ _)

theorem markDropped_traffic (p : Port) (s : State) : Traffic s (markDropped p s) := setArb _ _ _

theorem dropExchange_traffic (p : Port) (e : EntryIx) (s : State) : Traffic s (dropExchange p e s) := by
  unfold dropExchange
  dsimp only
  split
  · exact refl s
  · split
    · exact refl s
    · split
      · exact (markDropped_traffic _ _).trans ((setEntry _ _ _).trans (replyGone_traffic _ _))
      · exact (discardReply_traffic _ _).trans ((setEntry _ _ _).trans (replyGone_traffic _ _))
  · refine Traffic.trans ?_ (replyGone_traffic _ _)
    have h : ∀ x : Entry, Traffic s ((dropRequest e (leaveRetries e (leaveForward e s))).setEntry e x) := fun x =>
      Traffic.trans (Traffic.trans (Traffic.trans (leaveForward_traffic _ _) (leaveRetries_traffic _ _))
        (dropRequest_traffic _ _)) (setEntry _ _ _)
    split
    · exact (h _).trans (makeWithdraw_traffic _ _)
    · exact h _
  · refine Traffic.trans ?_ (replyGone_traffic _ _)
    have h : ∀ x : Entry, Traffic s ((dropRequest e s).setEntry e x) := fun x =>
      (dropRequest_traffic e s).trans (setEntry _ _ _)
    split
    · exact (h _).trans (makeWithdraw_traffic _ _)
    · exact h _

theorem dropRequests_traffic (p : Port) (s : State) : Traffic s (dropRequests p s) := by
  refine Traffic.foldl (fun s e => ?_) _ s
  split
  · exact dropExchange_traffic _ _ _
  · exact refl s

theorem dropPosts_traffic (p : Port) (c : Chn) (s : State) : Traffic s (dropPosts p c s) :=
  (setChan s _ _).trans (Traffic.foldl (fun s m => dropPost_traffic m s) _ _)

theorem endToward_traffic (p : Port) (st : Status) (c : Chn) (s : State) : Traffic s (endToward p st c s) :=
  (setChan s _ _).trans ((endAll_traffic _ _ _).trans ((endAll_traffic _ _ _).trans ((endAll_traffic _ _ _).trans
    (Traffic.foldl (fun s m => discardPost_traffic c .absent m s) _ _))))

/-! ## The end of a transmission -/

theorem forwardSent_traffic (e : EntryIx) (s : State) : Traffic s (forwardSent e s) := by
  unfold forwardSent
  dsimp only
  split
  · exact (release_traffic _ _ _).trans (setEntry _ _ _)
  · exact refl s

theorem clearTx_traffic (p : Port) (s : State) : Traffic s (clearTx p s) := (setArb _ _ _).trans (setLink _ _ _)

end Sys2Proof.Machine
end

