-- ==== Sys2Proof/Laws/Events.lean ====
section
/-! SUPPORT. What the operations of the policy store, the session controller, the touch router, the teardown and receive
assembly leave as it was: none of them moves the time base or the queue of commands. -/

namespace Sys2Proof.Machine

/-- From `s` to `t` the queue of commands and the time base are as they were. -/
structure Steady (s t : State) : Prop where
  pending : t.pending = s.pending
  time : t.time = s.time

namespace Steady

theorem refl (s : State) : Steady s s := ⟨rfl, rfl⟩
theorem trans {s t u : State} (h : Steady s t) (k : Steady t u) : Steady s u := ⟨k.1.trans h.1, k.2.trans h.2⟩

theorem foldl {α : Type} {f : State → α → State} (h : ∀ s a, Steady s (f s a)) (l : List α) (s : State) :
    Steady s (l.foldl f s) := by
  induction l generalizing s with
  | nil => exact refl s
  | cons a l ih => exact (h s a).trans (ih _)

theorem setPolicy (s : State) (v : Policy) : Steady s (s.setPolicy v) := ⟨rfl, rfl⟩
theorem setSession (s : State) (v : Session) : Steady s (s.setSession v) := ⟨rfl, rfl⟩
theorem setRun (s : State) (v : Option Run) : Steady s (s.setRun v) := ⟨rfl, rfl⟩
theorem setTouch (s : State) (v : Touch) : Steady s (s.setTouch v) := ⟨rfl, rfl⟩
theorem setTouchQueue (s : State) (x : Screen) (q : List TouchEvent) : Steady s (s.setTouchQueue x q) := ⟨rfl, rfl⟩

end Steady

theorem Traffic.steady {s t : State} (h : Traffic s t) : Steady s t := ⟨h.pending, h.time⟩
theorem settle_steady (s : State) : Steady s (settle s) := ⟨settle_pending s, settle_time s⟩

/-! ## Policy store -/

/-- After the policy store, a switch is a traffic step. -/
theorem takeSwitch_traffic (i : AreaId) (s : State) :
    Traffic (s.setPolicy { s.policy with active := i, pendingSwitch := none }) (takeSwitch i s) := by
  unfold takeSwitch
  refine Traffic.trans ?_ (latchAll_traffic _ _)
  refine Traffic.trans ?_ (resetPointers_traffic _)
  exact Traffic.foldl (fun s' c => switchChannel_traffic _ c s') _ _

theorem takeSwitch_steady (i : AreaId) (s : State) : Steady s (takeSwitch i s) :=
  (Steady.setPolicy s _).trans (takeSwitch_traffic i s).steady

/-- A switch ends with the target active and no switch pending (R95). -/
theorem takeSwitch_policy (i : AreaId) (s : State) :
    (takeSwitch i s).policy = { s.policy with active := i, pendingSwitch := none } :=
  (takeSwitch_traffic i s).policy

/-- A switch leaves the session controller, the draw states, the panel arbiter and the touch router (R101, R104, R139, R153). -/
theorem takeSwitch_rest (i : AreaId) (s : State) :
    (takeSwitch i s).session = s.session ∧ (takeSwitch i s).draws = s.draws ∧ (takeSwitch i s).run = s.run ∧
      (takeSwitch i s).touch = s.touch ∧ (takeSwitch i s).radio = s.radio :=
  have h := takeSwitch_traffic i s
  ⟨h.session, h.draws, h.run, h.touch, h.radio⟩

/-- After the policy store, FULL_CLEAR is a traffic step. -/
theorem clearAll_traffic (s : State) :
    Traffic (s.setPolicy { areaA := .default, areaB := .default, active := .a, pendingSwitch := none }) (clearAll s) := by
  unfold clearAll
  refine Traffic.trans ?_ (latchAll_traffic _ _)
  refine Traffic.trans ?_ (resetPointers_traffic _)
  exact Traffic.foldl (fun s' c => clearChannel_traffic c s') _ _

theorem clearAll_steady (s : State) : Steady s (clearAll s) :=
  (Steady.setPolicy s _).trans (clearAll_traffic s).steady

/-- FULL_CLEAR leaves both areas at their default contents, area A active and no switch pending (R100). -/
theorem clearAll_policy (s : State) :
    (clearAll s).policy = { areaA := .default, areaB := .default, active := .a, pendingSwitch := none } :=
  (clearAll_traffic s).policy

/-! ## Session controller -/

theorem editRecord_steady (f : SessRecord → SessRecord) (s : State) : Steady s (editRecord f s) := ⟨rfl, rfl⟩

theorem releaseQuiet_traffic (s : State) : Traffic s (releaseQuiet s) := by
  refine Traffic.foldl (fun s c => ?_) _ s
  split
  · split
    · exact latch_traffic _ _ _
    · exact Traffic.refl s
  · exact Traffic.refl s

theorem takePending_steady (s : State) : Steady s (takePending s) := by
  unfold takePending
  split
  · exact takeSwitch_steady _ _
  · exact Steady.refl s

theorem returnToIdle_steady (s : State) : Steady s (returnToIdle s) := by
  unfold returnToIdle
  refine Steady.trans ?_ (takePending_steady _)
  refine Steady.trans ?_ (latchAll_traffic _ _).steady
  exact (Steady.setSession s _).trans (releaseQuiet_traffic _).steady

theorem takePending_session (s : State) : (takePending s).session = s.session := by
  unfold takePending
  split
  · exact (takeSwitch_rest _ _).1
  · rfl

/-- The return to IDLE ends in IDLE with no record (R116). -/
theorem returnToIdle_session (s : State) :
    (returnToIdle s).session = { s.session with state := .idle, record := none } := by
  unfold returnToIdle
  rw [takePending_session, (latchAll_traffic _ _).session, (releaseQuiet_traffic _).session]
  rfl

theorem enterActive_steady (s : State) : Steady s (enterActive s) := by
  unfold enterActive
  refine Steady.trans ?_ (latchAll_traffic _ _).steady
  exact (editRecord_steady _ s).trans (Steady.setSession _ _)

theorem enterClosing_steady (k : Close) (s : State) : Steady s (enterClosing k s) := by
  cases k <;> simp only [enterClosing]
  · refine Steady.trans ?_ (editRecord_steady _ _)
    refine Steady.trans ?_ (latchAll_traffic _ _).steady
    exact (editRecord_steady _ s).trans (Steady.setSession _ _)
  · refine Steady.trans ?_ (returnToIdle_steady _)
    refine Steady.trans ?_ (latchAll_traffic _ _).steady
    exact (editRecord_steady _ s).trans (Steady.setSession _ _)

theorem endOpening_steady (s : State) : Steady s (endOpening s) := by
  unfold endOpening
  split
  · exact enterClosing_steady _ _
  · exact enterActive_steady _

theorem openSession_steady (a : OpenArgs) (s : State) : Steady s (openSession a s) := by
  have h : ∀ v : Session, Steady s (latchAll .sessionChange (s.setSession v)) := fun v =>
    (Steady.setSession s v).trans (latchAll_traffic _ _).steady
  unfold openSession
  dsimp only
  split
  · exact h _
  · exact (h _).trans (enterActive_steady _)

theorem closeForPd_steady (s : State) : Steady s (closeForPd s) := by
  unfold closeForPd
  split
  · exact Steady.refl s
  · exact editRecord_steady _ _
  · exact enterClosing_steady _ _
  · exact Steady.refl s

/-! ## Display filter and panel arbiter -/

theorem runCompleted_steady (r : Run) (s : State) : Steady s (runCompleted r s) := by
  have h0 : Steady s (s.setRun none) := Steady.setRun s none
  have h1 : ∀ p n, Steady s (release p n (s.setRun none)) := fun p n => h0.trans (release_traffic _ _ _).steady
  unfold runCompleted
  dsimp only
  split
  · split
    · split
      · exact (h1 _ _).trans (endOpening_steady _)
      · exact h1 _ _
    · split
      · exact h0.trans (endOpening_steady _)
      · exact h0
  · split
    · exact h0.trans (returnToIdle_steady _)
    · exact h0

/-! ## Touch router -/

theorem joinTouch_steady (x : Screen) (ev : TouchEvent) (s : State) : Steady s (joinTouch x ev s).1 := by
  unfold joinTouch
  dsimp only
  split
  · exact ⟨rfl, rfl⟩
  · split
    · split
      · exact ⟨rfl, rfl⟩
      · exact Steady.refl s
    · split
      · exact (Steady.setTouchQueue s _ _).trans (latch_traffic _ _ _).steady
      · exact ⟨rfl, rfl⟩

theorem deliver_steady (o : Option Screen) (ev : TouchEvent) (s : State) : Steady s (deliver o ev s).1 := by
  cases o
  · exact Steady.refl s
  · exact joinTouch_steady _ _ _

theorem setContact_steady (i : Fin 2) (v : Option Contact) (s : State) : Steady s (setContact i v s) := by
  unfold setContact
  split <;> exact ⟨rfl, rfl⟩

theorem slotStep_steady (i : Fin 2) (seen : Option (Nat × Nat)) (s : State) : Steady s (slotStep i seen s) := by
  unfold slotStep
  dsimp only
  split
  · exact (setContact_steady _ _ _).trans (deliver_steady _ _ _)
  · split
    · exact Steady.refl s
    · split
      · exact (deliver_steady _ _ _).trans (setContact_steady _ _ _)
      · exact deliver_steady _ _ _
  · exact (setContact_steady _ _ _).trans (deliver_steady _ _ _)
  · exact Steady.refl s

theorem liftContact_steady (i : Fin 2) (s : State) : Steady s (liftContact i s) := by
  unfold liftContact
  split
  · exact deliver_steady _ _ _
  · exact Steady.refl s

theorem touchIdle_steady (s : State) : Steady s (touchIdle s) := Steady.setTouch s _

theorem touchFault_steady (s : State) : Steady s (touchFault s) := by
  unfold touchFault
  refine Steady.trans ?_ (latch_traffic _ _ _).steady
  refine Steady.trans ?_ (setContact_steady _ _ _)
  refine Steady.trans ?_ (setContact_steady _ _ _)
  refine Steady.trans ?_ (liftContact_steady _ _)
  refine Steady.trans ?_ (liftContact_steady _ _)
  exact Steady.setTouch s _

theorem readFailed_steady (s : State) : Steady s (readFailed s) := by
  unfold readFailed
  dsimp only
  split
  · exact (Steady.setTouch s _).trans (touchFault_steady _)
  · exact (Steady.setTouch s _).trans (touchIdle_steady _)

theorem readGood_steady (r : List Byte) (s : State) : Steady s (readGood r s) := by
  unfold readGood
  refine Steady.trans ?_ (touchIdle_steady _)
  refine Steady.trans ?_ (slotStep_steady _ _ _)
  refine Steady.trans ?_ (slotStep_steady _ _ _)
  exact Steady.setTouch s _

/-! ## Teardown -/

theorem tearDraw_steady (x : Screen) (s : State) : Steady s (tearDraw x s) := by
  unfold tearDraw
  dsimp only
  split
  · split <;> exact ⟨rfl, rfl⟩
  · exact ⟨rfl, rfl⟩

theorem tearTouch_steady (x : Screen) (s : State) : Steady s (tearTouch x s) := ⟨rfl, rfl⟩

/-- Steps 1 to 3 of a teardown are traffic steps (R167). -/
theorem teardownTraffic (p : Port) (st : Status) (s : State) :
    Traffic s (allChns.foldl (fun s c => endToward p st c s)
      (allChns.foldl (fun s c => dropPosts p c s) (dropRequests p (discardParts p s)))) := by
  refine Traffic.trans ?_ (Traffic.foldl (fun s c => endToward_traffic p st c s) _ _)
  refine Traffic.trans ?_ (Traffic.foldl (fun s c => dropPosts_traffic p c s) _ _)
  exact (discardParts_traffic p s).trans (dropRequests_traffic p _)

theorem teardown_steady (p : Port) (st : Status) (s : State) : Steady s (teardown p st s) := by
  have h := (teardownTraffic p st s).steady
  have k : ∀ u, Steady s u → Steady s (if p = .pd then closeForPd (clearNotices p u) else clearNotices p u) := by
    intro u hu
    split
    · exact (hu.trans (clearNotices_traffic _ _).steady).trans (closeForPd_steady _)
    · exact hu.trans (clearNotices_traffic _ _).steady
  unfold teardown
  refine Steady.trans ?_ (latch_traffic _ _ _).steady
  refine k _ ?_
  split
  · exact (h.trans (tearDraw_steady _ _)).trans (tearTouch_steady _ _)
  · exact h

/-! ## Receive assembly and the end of a transmission -/

theorem setRx_traffic (p : Port) (v : Rx) (s : State) : Traffic s (setRx p v s) := Traffic.setLink _ _ _

theorem releaseHold_traffic (p : Port) (h : RxHold) (s : State) : Traffic s (releaseHold p h s) := by
  cases h
  · exact release_traffic _ _ _
  · exact freeReserve_traffic _ _
  · exact Traffic.refl s
  · exact Traffic.refl s

theorem discardPartial_traffic (p : Port) (s : State) : Traffic s (discardPartial p s) := by
  unfold discardPartial
  dsimp only
  split
  · exact (releaseHold_traffic _ _ _).trans (setRx_traffic _ _ _)
  · exact setRx_traffic _ _ _

theorem holdFrame_traffic (p : Port) (ty : FrameType) (n : Nat) (s : State) : Traffic s (holdFrame p ty n s).2 := by
  unfold holdFrame
  split
  · split
    · exact charge_traffic _ _ _
    · split
      · exact takeReserve_traffic _ _
      · exact countError_traffic _ _
  · exact Traffic.refl s

theorem takeHeader_traffic (p : Port) (ty : FrameType) (lo hi : Byte) (s : State) : Traffic s (takeHeader p ty lo hi s) :=
  (holdFrame_traffic _ _ _ _).trans (setRx_traffic _ _ _)

theorem reexamine_traffic (p : Port) (b : Byte) (s : State) : Traffic s (reexamine p b s) := by
  unfold reexamine
  split
  · split
    · exact setRx_traffic _ _ _
    · exact (countError_traffic _ _).trans (setRx_traffic _ _ _)
  all_goals first | exact setRx_traffic _ _ _ | exact Traffic.refl s

theorem clockOut_traffic (p : Port) (s : State) : Traffic s (clockOut p s) := by
  unfold clockOut
  split
  · exact Traffic.refl s
  · split
    · dsimp only
      split
      · exact (Traffic.setLink _ _ _).trans (Traffic.setArb _ _ _)
      · exact Traffic.setLink _ _ _
    · exact Traffic.setLink _ _ _

theorem touchGone_steady (p : Port) (s : State) : Steady s (touchGone p s) := by
  unfold touchGone
  split
  · exact Steady.setTouchQueue s _ _
  · exact Steady.refl s

theorem txEnded_steady (p : Port) (d : Bool) (src : TxSource) (s : State) : Steady s (txEnded p d src s) := by
  unfold txEnded
  split
  · exact (releaseBlock_traffic _ _ _).steady
  · split
    · exact (noticeSent_traffic _ _).steady
    · exact (noticeDiscarded_traffic _ _).steady
  · exact (withdrawGone_traffic _ _).steady
  · exact touchGone_steady _ _
  · dsimp only
    split
    · exact (releaseHeld_traffic _ _).steady
    · exact ((releaseHeld_traffic _ _).trans (replyGone_traffic _ _)).steady
  · exact (releaseHeld_traffic _ _).steady
  · exact (forwardSent_traffic _ _).steady
  · exact (releaseHeld_traffic _ _).steady

theorem endTx_steady (p : Port) (d : Bool) (s : State) : Steady s (endTx p d s) := by
  unfold endTx
  split
  · exact (clearTx_traffic _ _).steady.trans (txEnded_steady _ _ _ _)
  · exact Steady.refl s

/-- The event of a byte ends with the take and the grants, and a completion follows exactly where the byte has clocked out the
last CRC byte of a frame (R83, R154). -/
theorem byteEnd_cases (p : Port) (s : State) :
    byteEnd p s = settle s ∧ clockedOut (settle s) p = false ∨
      byteEnd p s = settle (endTx p true (settle s)) ∧ clockedOut (settle s) p = true := by
  unfold byteEnd
  dsimp only
  cases clockedOut (settle s) p
  · exact .inl ⟨if_neg (by decide), rfl⟩
  · exact .inr ⟨if_pos rfl, rfl⟩

theorem byteEnd_steady (p : Port) (s : State) : Steady s (byteEnd p s) := by
  rcases byteEnd_cases p s with ⟨h, -⟩ | ⟨h, -⟩ <;> rw [h]
  · exact settle_steady s
  · exact ((settle_steady s).trans (endTx_steady p true _)).trans (settle_steady _)

/-- The event of a byte is steady where its effect is. -/
theorem byteEvent_steady (p : Port) {k : State → State} (h : ∀ s, Steady s (k s)) (s : State) :
    Steady s (byteEvent p k s) :=
  ((clockOut_traffic p s).steady.trans (h _)).trans (byteEnd_steady p _)

/-- The event of a good frame is steady where taking the frame is. -/
theorem frameEvent_steady (p : Port) (b : Byte) (want : RxFrame → Bool) {k : RxFrame → State → State}
    (h : ∀ f s, Steady s (k f s)) (s : State) : Steady s (frameEvent p b want k s) := by
  unfold frameEvent
  split
  · split
    · exact byteEvent_steady p (fun s => (setRx_traffic p .hunt s).steady.trans (h _ _)) s
    · exact Steady.refl s
  all_goals exact Steady.refl s

/-- Handing a frame on is steady where taking it is. -/
theorem handOn_steady (p : Port) (f : RxFrame) {take : Nat → List Byte → State → State}
    (h : ∀ n b s, Steady s (take n b s)) (s : State) : Steady s (handOn p f take s) := by
  unfold handOn
  split
  · split
    · exact h _ _ _
    · exact ((release_traffic _ _ _).trans (countError_traffic _ _)).steady
  · exact (pushPart_traffic _ _ _).steady
  · exact Steady.refl s
  · exact (countError_traffic _ _).steady

end Sys2Proof.Machine
end

