-- ==== Sys2Proof/Laws/Frames.lean ====
section
/-! SUPPORT. The arrival of a frame: what stands while a byte is clocked and a frame leaves receive assembly, and what each
command that is the arrival of a good frame comes to. -/

namespace Sys2Proof.Machine

open Sys2Proof.Safety

/-! ## A byte is clocked -/

/-- Clocking a byte changes the byte presented on the link of `p` and how much of the frame in transmission is sent. -/
theorem clockOut_cases (p : Port) (s : State) :
    clockOut p s = s ∨ ∃ d tx, clockOut p s =
      (s.setLink p { s.link p with dataOut := d }).setArb p { s.arb p with tx := tx } := by
  by_cases hp : p = .rd
  · exact .inl (by simp [clockOut, hp])
  · refine .inr ?_
    unfold clockOut
    rw [if_neg hp]
    split
    · split
      · exact ⟨_, _, rfl⟩
      · exact ⟨fillerByte, (s.arb p).tx, by cases p <;> rfl⟩
    · exact ⟨fillerByte, (s.arb p).tx, by cases p <;> rfl⟩

theorem handed_eq (p : Port) (s : State) :
    ∃ l a, handed p s = { s with links := s.links.set p l, arbs := s.arbs.set p a } ∧
      l = { s.link p with rx := .hunt, dataOut := l.dataOut } ∧ a = { s.arb p with tx := a.tx } := by
  rcases clockOut_cases p s with h | ⟨d, tx, h⟩
  · refine ⟨{ s.link p with rx := .hunt }, s.arb p, ?_, rfl, rfl⟩
    simp only [handed, h]
    cases p <;> rfl
  · refine ⟨{ s.link p with rx := .hunt, dataOut := d }, { s.arb p with tx := tx }, ?_, rfl, rfl⟩
    simp only [handed, h]
    cases p <;> rfl

section handed
variable (p : Port) (s : State)

@[simp] theorem handed_pending : (handed p s).pending = s.pending := by obtain ⟨_, _, h, -⟩ := handed_eq p s; rw [h]
@[simp] theorem handed_time : (handed p s).time = s.time := by obtain ⟨_, _, h, -⟩ := handed_eq p s; rw [h]
@[simp] theorem handed_radio : (handed p s).radio = s.radio := by obtain ⟨_, _, h, -⟩ := handed_eq p s; rw [h]
@[simp] theorem handed_charged : (handed p s).charged = s.charged := by obtain ⟨_, _, h, -⟩ := handed_eq p s; rw [h]
@[simp] theorem handed_policy : (handed p s).policy = s.policy := by obtain ⟨_, _, h, -⟩ := handed_eq p s; rw [h]
@[simp] theorem handed_chans : (handed p s).chans = s.chans := by obtain ⟨_, _, h, -⟩ := handed_eq p s; rw [h]
@[simp] theorem handed_exch : (handed p s).exch = s.exch := by obtain ⟨_, _, h, -⟩ := handed_eq p s; rw [h]
@[simp] theorem handed_session : (handed p s).session = s.session := by obtain ⟨_, _, h, -⟩ := handed_eq p s; rw [h]
@[simp] theorem handed_draws : (handed p s).draws = s.draws := by obtain ⟨_, _, h, -⟩ := handed_eq p s; rw [h]
@[simp] theorem handed_run : (handed p s).run = s.run := by obtain ⟨_, _, h, -⟩ := handed_eq p s; rw [h]
@[simp] theorem handed_touch : (handed p s).touch = s.touch := by obtain ⟨_, _, h, -⟩ := handed_eq p s; rw [h]
@[simp] theorem handed_notices : (handed p s).notices = s.notices := by obtain ⟨_, _, h, -⟩ := handed_eq p s; rw [h]

@[simp] theorem handed_chan (c : Chn) : (handed p s).chan c = s.chan c := by simp [State.chan]
@[simp] theorem handed_entry (e : EntryIx) : (handed p s).entry e = s.entry e := by simp [State.entry]
@[simp] theorem handed_draw (x : Screen) : (handed p s).draw x = s.draw x := by simp [State.draw]
@[simp] theorem handed_notice (q : Port) : (handed p s).notice q = s.notice q := by simp [State.notice]
@[simp] theorem handed_chargedTo (q : Port) : (handed p s).chargedTo q = s.chargedTo q := by simp [State.chargedTo]
@[simp] theorem handed_touchQueue (x : Screen) : (handed p s).touchQueue x = s.touchQueue x := by
  simp [State.touchQueue]

@[simp] theorem handed_iq (q : Port) : ((handed p s).arb q).iq = (s.arb q).iq := by
  obtain ⟨l, a, h, -, ha⟩ := handed_eq p s
  simp only [h, State.arb]
  by_cases hq : q = p
  · subst hq; simp only [PerPort.get_set_self]; rw [ha]; rfl
  · rw [PerPort.get_set_ne _ _ hq]

theorem handed_linkOther (q : Port) (hq : q ≠ p) : (handed p s).link q = s.link q := by
  obtain ⟨l, a, h, -, -⟩ := handed_eq p s
  simp only [h, State.link]
  rw [PerPort.get_set_ne _ _ hq]

theorem handed_linkSelf : ∃ d, (handed p s).link p = { s.link p with rx := .hunt, dataOut := d } := by
  obtain ⟨l, a, h, hl, -⟩ := handed_eq p s
  refine ⟨l.dataOut, ?_⟩
  simp only [h, State.link, PerPort.get_set_self]
  exact hl

@[simp] theorem handed_state (q : Port) : ((handed p s).link q).state = (s.link q).state := by
  by_cases hq : q = p
  · subst hq; obtain ⟨d, h⟩ := handed_linkSelf q s; rw [h]
  · rw [handed_linkOther p s q hq]

@[simp] theorem handed_errors (q : Port) : ((handed p s).link q).errors = (s.link q).errors := by
  by_cases hq : q = p
  · subst hq; obtain ⟨d, h⟩ := handed_linkSelf q s; rw [h]
  · rw [handed_linkOther p s q hq]

@[simp] theorem handed_reserve (q : Port) : ((handed p s).link q).reserve = (s.link q).reserve := by
  by_cases hq : q = p
  · subst hq; obtain ⟨d, h⟩ := handed_linkSelf q s; rw [h]
  · rw [handed_linkOther p s q hq]

@[simp] theorem handed_recordOf (c : Chn) : recordOf (handed p s) c = recordOf s c := by
  simp [recordOf, activeArea, areaOfId]
@[simp] theorem handed_activeArea : activeArea (handed p s) = activeArea s := by simp [activeArea, areaOfId]
@[simp] theorem handed_areaOfId (i : AreaId) : areaOfId (handed p s) i = areaOfId s i := by cases i <;> simp [areaOfId]
@[simp] theorem handed_settingsOf (q : Port) : settingsOf (handed p s) q = settingsOf s q := by simp [settingsOf]
@[simp] theorem handed_sessionOpen : sessionOpen (handed p s) = sessionOpen s := by simp [sessionOpen]
@[simp] theorem handed_forcedHold (c : Chn) : forcedHold (handed p s) c = forcedHold s c := by simp [forcedHold]
@[simp] theorem handed_effectiveHold (c : Chn) : effectiveHold (handed p s) c = effectiveHold s c := by
  simp [effectiveHold]
@[simp] theorem handed_servedBy (c : Chn) (o q : Port) : servedBy (handed p s) c o q = servedBy s c o q := by
  simp [servedBy]
@[simp] theorem handed_live (e : EntryIx) : live (handed p s) e = live s e := by simp [live]
@[simp] theorem handed_heldBy (q : Port) : heldBy (handed p s) q = heldBy s q := by simp [heldBy]
@[simp] theorem handed_lowestFree : lowestFree (handed p s) = lowestFree s := by simp [lowestFree]
@[simp] theorem handed_entryOfTag (q : Port) (t : Byte) : entryOfTag (handed p s) q t = entryOfTag s q t := by
  simp [entryOfTag]
@[simp] theorem handed_namedEntry (y : Port) (c x : Byte) : namedEntry (handed p s) y c x = namedEntry s y c x := by
  simp [namedEntry]
@[simp] theorem handed_waitingRetry (e : EntryIx) : waitingRetry (handed p s) e = waitingRetry s e := by
  simp [waitingRetry]

end handed

/-! ## The arrival of a good frame -/

/-- A frame that arrives on an UP link is handed to its taker, with what ends the event of a byte after it. -/
theorem typedFrame_arrives {s : State} {p : Port} {b : Byte} {ty : FrameType} {n : Nat} {body : List Byte}
    (take : Nat → List Byte → State → State) (h : Arrives s p b ty n body) :
    typedFrame ty p b take s = byteEnd p (take n body (handed p s)) := by
  obtain ⟨hup, f, hc, rfl, hh, rfl⟩ := h
  have hs := handed_state p s p
  simp only [handed] at hs
  simp only [Completes] at hc
  simp only [typedFrame, frameEvent, hc, byteEvent, handOn, hh, handed]
  simp [hs, hup]

/-- A CONTROL of request `c` that arrives is put through the checks of R173 and answered. -/
theorem controlFrame_arrives {s : State} {p : Port} {b : Byte} {n : Nat} {code tag : Byte} {args : List Byte} (c : Ctl)
    (act : List Byte → State → Answered) (h : Asks s p b n code tag args) (hc : ctlOf code = some c) :
    controlFrame c p b act s =
      byteEnd p (controlAnswer p code tag (checked c p args (act args) (kept p n s))) := by
  obtain ⟨hup, f, hf, ht, hh, hb⟩ := h
  have hs := handed_state p s p
  simp only [handed] at hs
  simp only [Completes] at hf
  simp only [controlFrame, frameEvent, hf, byteEvent, handOn, hh, isControl, ht, hb, asksFor, endpoint, argsOf, byteAt,
    kept, handed]
  simp [hs, hup, hc]

end Sys2Proof.Machine
end

