-- ==== Sys2Proof/Laws/Ops.lean ====
section
/-! SUPPORT. What the shared operations write: block charges, the internal part-frame queues, the pending sets, and the end of
an exchange on its entry, its channel number and everything else. -/

namespace Sys2Proof.Machine

/-! ## Message buffer -/

theorem charge_chargedTo (p q : Port) (n : Nat) (s : State) :
    (charge p n s).chargedTo q = if q = p then s.chargedTo p + n else s.chargedTo q := State.setCharged_chargedTo _ _ _ _

theorem release_chargedTo (p q : Port) (n : Nat) (s : State) :
    (release p n s).chargedTo q = if q = p then s.chargedTo p - n else s.chargedTo q := State.setCharged_chargedTo _ _ _ _

/-- A release never raises a charge (R40). -/
theorem release_le (p q : Port) (n : Nat) (s : State) : (release p n s).chargedTo q ≤ s.chargedTo q := by
  rw [release_chargedTo]
  split
  · rename_i h; subst h; exact Nat.sub_le _ _
  · exact Nat.le_refl _

theorem pushPart_arb (p q : Port) (f : IFrame) (s : State) :
    (pushPart p f s).arb q = if q = p then { s.arb p with iq := (s.arb p).iq ++ [f] } else s.arb q :=
  State.setArb_arb _ _ _ _

/-- An answer joins the tail of the queue of the port it goes to (R25, R73). -/
theorem answer_iq (p : Port) (n : Nat) (f : PartFrame) (s : State) :
    ((answer p n f s).arb p).iq = (s.arb p).iq ++ [{ what := f, block := .charged }] := by
  simp [answer, pushPart, release]

theorem countError_link (p q : Port) (s : State) :
    (countError p s).link q = if q = p then { s.link p with errors := min errorLimit ((s.link p).errors + 1) } else s.link q :=
  State.setLink_link _ _ _ _

/-! ## Notice unit -/

/-- A condition already pending stays pending once (R181). -/
theorem latch_pending {p : Port} {c : Condition} {s : State} (h : hasCondition (s.notice p).set c = true) :
    latch p c s = s := by
  simp [latch, h]

/-- A condition latched while absent joins the set (R181). -/
theorem latch_set {p : Port} {c : Condition} {s : State} (h : hasCondition (s.notice p).set c = false) :
    ((latch p c s).notice p).set = (s.notice p).set ||| c.bit := by
  unfold latch
  simp only [h, Bool.false_eq_true, if_false]
  split
  · split <;> simp [makeNotice, pushPart]
  · simp

/-- A latch for `p` leaves the notice unit of every other port (R181). -/
theorem latch_notice_ne {p q : Port} (c : Condition) (s : State) (h : q ≠ p) : (latch p c s).notice q = s.notice q := by
  unfold latch
  dsimp only
  split
  · rfl
  · split
    · split <;> simp [makeNotice, pushPart, State.setNotice_notice, h]
    · simp [State.setNotice_notice, h]

/-- A latch leaves charges, channels, exchanges and links. -/
theorem latch_rest (p : Port) (c : Condition) (s : State) :
    (latch p c s).charged = s.charged ∧ (latch p c s).chans = s.chans ∧ (latch p c s).exch = s.exch ∧
      (latch p c s).links = s.links := by
  unfold latch
  dsimp only
  split
  · exact ⟨rfl, rfl, rfl, rfl⟩
  · split
    · split <;> exact ⟨rfl, rfl, rfl, rfl⟩
    · exact ⟨rfl, rfl, rfl, rfl⟩

/-! ## Exchanges -/

theorem dropRequest_entry (e e' : EntryIx) (s : State) :
    (dropRequest e s).entry e' = if e' = e then { s.entry e with req := none } else s.entry e' := by
  unfold dropRequest
  dsimp only
  split
  · rw [State.setEntry_entry]; simp
  · rw [State.setEntry_entry]; simp [release]

theorem dropRequest_chans (e : EntryIx) (s : State) : (dropRequest e s).chans = s.chans := by
  unfold dropRequest
  dsimp only
  split <;> rfl

theorem makeWithdraw_entry (e e' : EntryIx) (s : State) :
    (makeWithdraw e s).entry e' =
      if e' = e ∧ (s.link (s.entry e).responder).state = .up then { s.entry e with withdraw := true } else s.entry e' := by
  unfold makeWithdraw
  dsimp only
  by_cases h : (s.link (s.entry e).responder).state = .up
  · by_cases he : e' = e
    · simp [h, he, pushPart]
    · simp [h, he, pushPart, State.setEntry_entry]
  · simp [h]

theorem makeWithdraw_chans (e : EntryIx) (s : State) : (makeWithdraw e s).chans = s.chans := by
  unfold makeWithdraw
  dsimp only
  split <;> rfl

/-- A part-made ending leaves every other entry (R18, R60). -/
theorem endExchange_entry_ne {e e' : EntryIx} (st : Status) (s : State) (h : e' ≠ e) :
    (endExchange e st s).entry e' = s.entry e' := by
  unfold endExchange
  dsimp only
  split
  · rw [makeWithdraw_entry]
    simp [h, joinReturn, dropRequest_entry, enterReplying, State.setEntry_entry]
  · simp [h, joinReturn, dropRequest_entry, enterReplying, State.setEntry_entry]

/-- A part-made ending puts the entry in REPLYING with its status, without deadline and without request blocks (R46). -/
theorem endExchange_entry (e : EntryIx) (st : Status) (s : State) :
    ∃ w, (endExchange e st s).entry e =
      { s.entry e with st := .replying, status := some st, deadline := none, req := none, withdraw := w } := by
  unfold endExchange
  dsimp only
  split
  · rw [makeWithdraw_entry]
    split
    · exact ⟨true, by simp [joinReturn, dropRequest_entry, enterReplying]⟩
    · exact ⟨(s.entry e).withdraw, by simp [joinReturn, dropRequest_entry, enterReplying]⟩
  · exact ⟨(s.entry e).withdraw, by simp [joinReturn, dropRequest_entry, enterReplying]⟩

/-- A part-made ending adds its reply to the tail of the return queue of its channel number, and changes no channel
otherwise (R19). -/
theorem endExchange_chan (e : EntryIx) (st : Status) (c : Chn) (s : State) :
    (endExchange e st s).chan c =
      if c = (s.entry e).chan then { s.chan c with ret := (s.chan c).ret ++ [{ entry := e, frame := none }] }
      else s.chan c := by
  have h : ∀ t : State, (makeWithdraw e t).chan c = t.chan c := fun t => by
    simp only [State.chan, makeWithdraw_chans]
  have k : ∀ t : State, (dropRequest e t).chan c = t.chan c := fun t => by
    simp only [State.chan, dropRequest_chans]
  have j : (joinReturn e none (dropRequest e (enterReplying e st s))).chan c =
      if c = (s.entry e).chan then { s.chan c with ret := (s.chan c).ret ++ [{ entry := e, frame := none }] }
      else s.chan c := by
    have hc : ((dropRequest e (enterReplying e st s)).entry e).chan = (s.entry e).chan := by
      simp [dropRequest_entry, enterReplying]
    unfold joinReturn
    dsimp only
    rw [State.setChan_chan, hc]
    by_cases hcc : c = (s.entry e).chan
    · subst hcc
      rw [if_pos rfl, if_pos rfl, k]
      simp [enterReplying]
    · rw [if_neg hcc, if_neg hcc, k]
      simp [enterReplying]
  unfold endExchange
  dsimp only
  split
  · rw [h, j]
  · exact j

end Sys2Proof.Machine
end

