-- ==== Sys2Proof/Laws/Latch.lean ====
section
/-! SUPPORT. Everything that latching conditions does: to the notice unit and the internal part-frame queue of each port, and to
nothing else; what the return of the session to IDLE latches; and that the events of the touch router leave the contacts alone. -/

namespace Sys2Proof.Safety

open Machine

theorem noticeAfter_zero (n : Notice) : noticeAfter n 0#16 = n := by
  unfold noticeAfter
  simp

theorem noticeMade_zero (n : Notice) : noticeMade n 0#16 = [] := by
  unfold noticeMade
  simp

/-- Selected and newly pending, of two latches one after the other. -/
theorem fresh_or (set mask a b : Half) :
    ((a ||| b) &&& ~~~ set &&& mask = 0#16) ↔ (a &&& ~~~ set &&& mask = 0#16) ∧ (b &&& ~~~ (set ||| a) &&& mask = 0#16) := by
  have bits (h : Half) : h = 0#16 ↔ ∀ i, h.getLsbD i = false := by
    constructor
    · rintro rfl i; simp
    · intro k
      apply BitVec.eq_of_getLsbD_eq
      intro i _
      rw [k i]; simp
  simp only [bits, ← forall_and]
  refine forall_congr' fun i => ?_
  by_cases hi : i < 16
  · simp only [BitVec.getLsbD_and, BitVec.getLsbD_or, BitVec.getLsbD_not, hi, decide_true, Bool.true_and]
    cases a.getLsbD i <;> cases b.getLsbD i <;> cases set.getLsbD i <;> cases mask.getLsbD i <;> decide
  · simp [BitVec.getLsbD_of_ge _ i (Nat.le_of_not_lt hi)]

theorem noticeAfter_mask (n : Notice) (a : Half) : (noticeAfter n a).mask = n.mask := by
  unfold noticeAfter
  split
  · rfl
  · cases n.st <;> rfl

theorem noticeAfter_set (n : Notice) (a : Half) : (noticeAfter n a).set = n.set ||| a := by
  unfold noticeAfter
  split
  · rfl
  · cases n.st <;> rfl

/-- Two latches one after the other are one latch of both. -/
theorem noticeAfter_or (n : Notice) (a b : Half) : noticeAfter (noticeAfter n a) b = noticeAfter n (a ||| b) := by
  have f := fresh_or n.set n.mask a b
  have assoc : n.set ||| a ||| b = n.set ||| (a ||| b) := BitVec.or_assoc _ _ _
  by_cases ha : a &&& ~~~ n.set &&& n.mask = 0#16 <;> by_cases hb : b &&& ~~~ (n.set ||| a) &&& n.mask = 0#16 <;>
    simp only [ha, hb, true_and, false_and, iff_true, iff_false] at f <;>
    cases hs : n.st <;> simp [noticeAfter, ha, hb, f, hs, assoc]

/-- The NOTICEs of two latches are the one NOTICE of both, or none. -/
theorem noticeMade_or (n : Notice) (a b : Half) :
    noticeMade n a ++ noticeMade (noticeAfter n a) b = noticeMade n (a ||| b) := by
  have f := fresh_or n.set n.mask a b
  by_cases ha : a &&& ~~~ n.set &&& n.mask = 0#16 <;> by_cases hb : b &&& ~~~ (n.set ||| a) &&& n.mask = 0#16 <;>
    simp only [ha, hb, true_and, false_and, iff_true, iff_false] at f <;>
    cases hs : n.st <;> simp [noticeMade, noticeAfter, ha, hb, f, hs]

/-- The state `t` is `s` with the conditions `ks p` latched for each port `p`, and nothing else changed. -/
structure LatchedOnly (s t : State) (ks : Port → Half) : Prop where
  notice : ∀ p, t.notice p = noticeAfter (s.notice p) (ks p)
  arb : ∀ p, t.arb p = { s.arb p with iq := (s.arb p).iq ++ noticeMade (s.notice p) (ks p) }
  rest : t.pending = s.pending ∧ t.time = s.time ∧ t.links = s.links ∧ t.radio = s.radio ∧ t.charged = s.charged ∧
    t.policy = s.policy ∧ t.chans = s.chans ∧ t.exch = s.exch ∧ t.session = s.session ∧ t.draws = s.draws ∧ t.run = s.run ∧
    t.touch = s.touch

namespace LatchedOnly

theorem refl (s : State) : LatchedOnly s s (fun _ => 0#16) :=
  ⟨fun _ => (noticeAfter_zero _).symm, fun _ => by rw [noticeMade_zero, List.append_nil],
    rfl, rfl, rfl, rfl, rfl, rfl, rfl, rfl, rfl, rfl, rfl, rfl⟩

theorem trans {s t u : State} {a b : Port → Half} (h : LatchedOnly s t a) (k : LatchedOnly t u b) :
    LatchedOnly s u (fun p => a p ||| b p) := by
  refine ⟨fun p => by rw [k.notice, h.notice, noticeAfter_or], fun p => ?_, ?_⟩
  · rw [k.arb, h.arb, h.notice, ← noticeMade_or]
    simp
  · obtain ⟨a1, a2, a3, a4, a5, a6, a7, a8, a9, a10, a11, a12⟩ := h.rest
    obtain ⟨b1, b2, b3, b4, b5, b6, b7, b8, b9, b10, b11, b12⟩ := k.rest
    exact ⟨b1.trans a1, b2.trans a2, b3.trans a3, b4.trans a4, b5.trans a5, b6.trans a6, b7.trans a7, b8.trans a8,
      b9.trans a9, b10.trans a10, b11.trans a11, b12.trans a12⟩

theorem congr {s t : State} {a b : Port → Half} (h : LatchedOnly s t a) (e : ∀ p, a p = b p) : LatchedOnly s t b := by
  rwa [← funext e]

theorem latched {s t : State} {ks : Port → Half} (h : LatchedOnly s t ks) : Latched s t ks :=
  ⟨h.notice, fun p f hf => by rw [h.arb]; exact List.mem_append_right _ hf⟩

end LatchedOnly

/-- A condition's place, met with a field, is the place or nothing. -/
theorem bit_and (k : Condition) (h : Half) : k.bit &&& h = 0#16 ∨ k.bit &&& h = k.bit := by
  have place (i : Nat) (hi : i < 16) : (1#16 <<< i) &&& h = 0#16 ∨ (1#16 <<< i) &&& h = 1#16 <<< i := by
    have other (j : Nat) (hj : j < 16) (ne : j ≠ i) : (1#16 <<< i).getLsbD j = false := by
      rw [BitVec.getLsbD_shiftLeft, BitVec.getLsbD_one]
      simp
      omega
    cases hb : h.getLsbD i
    · left
      apply BitVec.eq_of_getLsbD_eq
      intro j hj
      rw [BitVec.getLsbD_and, BitVec.getLsbD_zero]
      by_cases ne : j = i
      · rw [ne, hb, Bool.and_false]
      · rw [other j hj ne, Bool.false_and]
    · right
      apply BitVec.eq_of_getLsbD_eq
      intro j hj
      rw [BitVec.getLsbD_and]
      by_cases ne : j = i
      · rw [ne, hb, Bool.and_true]
      · rw [other j hj ne, Bool.false_and]
  cases k
  · exact place 0 (by decide)
  · exact place 1 (by decide)
  · exact place 2 (by decide)
  · exact place 3 (by decide)
  · exact place 4 (by decide)
  · exact place 5 (by decide)
  · exact place 6 (by decide)
  · exact place 7 (by decide)
  · exact place 8 (by decide)

theorem hasCondition_iff (h : Half) (k : Condition) : hasCondition h k = true ↔ k.bit &&& h = k.bit := by
  have ne : k.bit ≠ 0#16 := by cases k <;> decide
  unfold hasCondition
  rw [BitVec.and_comm, bne_iff_ne]
  rcases bit_and k h with e | e <;> rw [e]
  · exact ⟨fun f => absurd rfl f, fun f => absurd f.symm ne⟩
  · exact ⟨fun _ => rfl, fun _ => ne⟩

/-- Where a condition is pending already, or not selected, it is not selected and newly pending. -/
theorem fresh_iff (n : Notice) (k : Condition) :
    k.bit &&& ~~~ n.set &&& n.mask = 0#16 ↔ hasCondition n.set k = true ∨ hasCondition n.mask k = false := by
  have ne : k.bit ≠ 0#16 := by cases k <;> decide
  have compl : k.bit &&& n.set = k.bit → k.bit &&& ~~~ n.set = 0#16 := by
    intro e
    rw [← e, BitVec.and_assoc]
    simp
  have compl' : k.bit &&& n.set = 0#16 → k.bit &&& ~~~ n.set = k.bit := by
    intro e
    apply BitVec.eq_of_getLsbD_eq
    intro i hi
    have := congrArg (fun h => BitVec.getLsbD h i) e
    simp only [BitVec.getLsbD_and, BitVec.getLsbD_zero, BitVec.getLsbD_not, hi, decide_true, Bool.true_and] at this ⊢
    revert this
    cases k.bit.getLsbD i <;> cases n.set.getLsbD i <;> decide
  rw [← Bool.not_eq_true, hasCondition_iff, hasCondition_iff]
  rcases bit_and k n.set with e | e
  · rw [compl' e, e]
    rcases bit_and k n.mask with f | f <;> rw [f]
    · exact ⟨fun _ => .inr ne.symm, fun _ => rfl⟩
    · exact ⟨fun g => absurd g ne, fun g => g.elim Eq.symm (absurd rfl)⟩
  · rw [compl e, e, BitVec.zero_and]
    exact ⟨fun _ => .inl rfl, fun _ => rfl⟩

theorem or_of_hasCondition {h : Half} {k : Condition} (p : hasCondition h k = true) : h ||| k.bit = h := by
  rw [hasCondition_iff] at p
  apply BitVec.eq_of_getLsbD_eq
  intro i hi
  have := congrArg (fun h => BitVec.getLsbD h i) p
  simp only [BitVec.getLsbD_and, BitVec.getLsbD_or] at this ⊢
  revert this
  cases k.bit.getLsbD i <;> cases h.getLsbD i <;> decide

/-- What a latch for `p` writes (R181, R182). -/
theorem latch_eq (p : Port) (k : Condition) (s : State) :
    latch p k s =
      (s.setNotice p (noticeAfter (s.notice p) k.bit)).setArb p
        { s.arb p with iq := (s.arb p).iq ++ noticeMade (s.notice p) k.bit } := by
  have fresh := fresh_iff (s.notice p) k
  by_cases hs : hasCondition (s.notice p).set k = true
  · rw [latch_pending hs]
    simp only [noticeAfter, noticeMade, fresh.mpr (.inl hs), or_of_hasCondition hs, ne_eq, not_true, false_and, if_true, if_false,
      List.append_nil]
    cases p <;> rfl
  · by_cases hm : hasCondition (s.notice p).mask k = true
    · have fresh : ¬ (k.bit &&& ~~~ (s.notice p).set &&& (s.notice p).mask = 0#16) := by rw [fresh]; simp [hs, hm]
      cases st : (s.notice p).st <;>
        simp only [latch, hs, hm, st, noticeAfter, noticeMade, fresh, makeNotice, pushPart, ne_eq, not_false_eq_true,
          and_true, and_false, if_true, if_false, Bool.false_eq_true, List.append_nil, reduceCtorEq] <;>
        cases p <;> rfl
    · simp only [latch, hs, hm, noticeAfter, noticeMade, fresh.mpr (.inr (by simpa using hm)), ne_eq, not_true, false_and, if_true,
        if_false, Bool.false_eq_true, List.append_nil]
      cases p <;> rfl

/-- A latch for `p` latches the condition for `p` and does nothing else (R181, R182). -/
theorem latch_only (p : Port) (k : Condition) (s : State) :
    LatchedOnly s (latch p k s) (fun q => if q = p then k.bit else 0#16) := by
  rw [latch_eq]
  refine ⟨fun q => ?_, fun q => ?_, rfl, rfl, rfl, rfl, rfl, rfl, rfl, rfl, rfl, rfl, rfl, rfl⟩
  · by_cases h : q = p
    · subst h; simp
    · simp [h, noticeAfter_zero, State.setNotice_notice]
  · by_cases h : q = p
    · subst h; simp
    · simp [h, noticeMade_zero, State.setArb_arb]

/-- A condition latched for all is latched for each port, and nothing else changes. -/
theorem latchAll_only (k : Condition) (s : State) : LatchedOnly s (latchAll k s) (fun _ => k.bit) :=
  (((latch_only .ad k s).trans (latch_only .pd k _)).trans (latch_only .rd k _)).congr fun p => by cases p <;> simp

/-- The return to IDLE latches RELEASED for the owners that `releasedFor` names, and nothing else changes (R13, R116). -/
theorem releaseQuiet_only (s : State) :
    LatchedOnly s (releaseQuiet s) (fun p => if releasedFor s p then 0x0020#16 else 0#16) := by
  let names (c : Chn) (p : Port) : Bool :=
    match recordOf s c with
    | some r => r.owner == p && r.quietInSession && !(s.chan c).ownHold
    | none => false
  suffices h : ∀ (l : List Chn) (t : State) (ks : Port → Half), LatchedOnly s t ks →
      LatchedOnly s
        (l.foldl
          (fun t c =>
            match recordOf t c with
            | some r => if r.quietInSession && !(t.chan c).ownHold then latch r.owner .released t else t
            | none => t)
          t)
        (fun p => ks p ||| if l.any (fun c => names c p) then 0x0020#16 else 0#16) from
    (h allChns s _ (.refl s)).congr fun p => BitVec.zero_or
  intro l
  induction l with
  | nil => exact fun t ks h => h.congr fun p => by simp
  | cons c l ih =>
    intro t ks h
    have record : recordOf t c = recordOf s c := by unfold recordOf activeArea areaOfId; rw [h.rest.2.2.2.2.2.1]
    have chan : t.chan c = s.chan c := by unfold State.chan; rw [h.rest.2.2.2.2.2.2.1]
    simp only [List.foldl_cons, List.any_cons, record, chan]
    cases hr : recordOf s c with
    | none => exact (ih t ks h).congr fun p => by simp [names, hr]
    | some r =>
      dsimp only
      split
      · rename_i hq
        refine (ih _ _ (h.trans (latch_only r.owner .released t))).congr fun p => ?_
        have bit : Condition.released.bit = 0x0020#16 := rfl
        rw [bit, BitVec.or_assoc]
        congr 1
        by_cases hp : r.owner = p
        · subst hp
          simp only [names, hr, BEq.rfl, Bool.true_and, hq, Bool.true_or, if_true]
          split <;> decide
        · have ne : (r.owner == p) = false := by simpa using hp
          simp [names, hr, ne, Ne.symm hp]
      · rename_i hq
        refine (ih t ks h).congr fun p => ?_
        have no : (r.owner == p && r.quietInSession && !(s.chan c).ownHold) = false := by
          rw [Bool.and_assoc, Bool.not_eq_true _ |>.mp hq, Bool.and_false]
        simp [names, hr, no]

/-! ## Touch events and the contact table -/

/-- Latching reads and writes no contact. -/
theorem latch_setContact (i : Fin 2) (v : Option Contact) (p : Port) (k : Condition) (s : State) :
    latch p k (setContact i v s) = setContact i v (latch p k s) := by
  rw [latch_eq, latch_eq]
  unfold setContact
  by_cases hi : i = 0 <;> simp only [hi, if_true, if_false] <;> cases p <;> rfl

theorem setContact_touchQueue (i : Fin 2) (v : Option Contact) (x : Screen) (s : State) :
    (setContact i v s).touchQueue x = s.touchQueue x := by
  unfold setContact
  split <;> rfl

theorem setContact_time (i : Fin 2) (v : Option Contact) (s : State) : (setContact i v s).time = s.time := by
  unfold setContact
  split <;> rfl

theorem setTouchQueue_setContact (i : Fin 2) (v : Option Contact) (x : Screen) (q : List TouchEvent) (s : State) :
    (setContact i v s).setTouchQueue x q = setContact i v (s.setTouchQueue x q) := by
  unfold setContact
  by_cases hi : i = 0 <;> simp only [hi, if_true, if_false] <;> rfl

theorem splitQueue_setContact (i : Fin 2) (v : Option Contact) (x : Screen) (s : State) :
    splitQueue (setContact i v s) x = splitQueue s x := by
  have sending : touchSending (setContact i v s) x = touchSending s x := by unfold setContact; split <;> rfl
  unfold splitQueue
  rw [setContact_touchQueue, sending]

/-- An event joins a queue, or overflows, whatever the contacts are (R149). -/
theorem deliver_setContact (i : Fin 2) (v : Option Contact) (o : Option Screen) (ev : TouchEvent) (s : State) :
    deliver o ev (setContact i v s) = (setContact i v (deliver o ev s).1, (deliver o ev s).2) := by
  cases o with
  | none => rfl
  | some x =>
    show joinTouch x ev (setContact i v s) = (setContact i v (joinTouch x ev s).1, (joinTouch x ev s).2)
    unfold joinTouch
    rw [setContact_touchQueue, splitQueue_setContact]
    dsimp only
    simp only [setTouchQueue_setContact]
    split
    · rfl
    · split
      · split <;> rfl
      · split
        · rw [latch_setContact]
        · rfl

end Sys2Proof.Safety
end

