-- ==== Sys2Proof/Laws/Times.lean ====
section
/-! SUPPORT. The comparison of times (R23), the forward gap (R34), and sequences of commands. -/

namespace Sys2Proof

namespace Machine

/-- A time is at or later than another where the difference, modulo 2^32, is below 2^31 (R23). -/
theorem atOrLater_iff (t u : Time) : atOrLater t u = true ↔ (t - u).toNat < 2 ^ 31 := by
  unfold atOrLater later
  have same : (t == u) = true ↔ (t - u).toNat = 0 := by
    rw [beq_iff_eq]
    constructor
    · rintro rfl; simp
    · intro h
      have : t - u = 0#32 := BitVec.eq_of_toNat_eq (by simpa using h)
      bv_omega
  rw [Bool.or_eq_true, same]
  simp only [Bool.and_eq_true, decide_eq_true_eq]
  omega

/-- The gap is satisfied where no last forward time is held, or the moment is at or later than it + Gap (R34). -/
theorem gapSatisfied_iff (s : State) (c : Chn) (gap : Nat) : gapSatisfied s c gap = true ↔
    ∀ t, (s.chan c).lastForward = some t → (s.time - (t + BitVec.ofNat 32 gap)).toNat < 2 ^ 31 := by
  unfold gapSatisfied
  cases (s.chan c).lastForward with
  | none => simp
  | some t =>
    simp only [Option.some.injEq, forall_eq']
    exact atOrLater_iff _ _

end Machine

namespace Safety

open Machine

theorem leads_append {a b : List Instr} {s t u : State} (h : Leads a s t) (k : Leads b t u) : Leads (a ++ b) s u := by
  induction a generalizing s with
  | nil => cases h; exact k
  | cons i a ih => obtain ⟨v, hv, hr⟩ := h; exact ⟨v, hv, ih hr⟩

/-- A fold of an operation that each of the commands is, is where the commands lead. -/
theorem leads_foldl {α : Type} (g : α → Instr) (f : State → α → State) (h : ∀ s a, exec (g a) s = .next (f s a)) (l : List α)
    (s : State) : Leads (l.map g) s (l.foldl f s) := by
  induction l generalizing s with
  | nil => rfl
  | cons a l ih => exact ⟨_, h s a, ih _⟩

end Safety

end Sys2Proof
end

