-- ==== Sys2Proof/WellFormed.lean ====
section
/-! DEFINITION. Which commands name something the part has: a channel number 1..48, an entry index 0..31, a report of 11
bytes (manual, "Identifiers"; R142). An ill-formed command names nothing, and no event takes place for it. -/

namespace Sys2Proof

/-- A channel number lies in 1..48. -/
def channelInRange (c : Nat) : Bool := decide (1 ≤ c) && decide (c ≤ 48)

/-- An entry index lies in 0..31. -/
def entryInRange (e : Nat) : Bool := decide (e < 32)

/-- A touch report holds 11 bytes (R142). -/
def reportComplete (r : List Byte) : Bool := r.length == 11

/-- The command's operands lie in the ranges of the manual. -/
def Instr.wellFormed : Instr → Bool
  | .gapWaitEnd c => channelInRange c
  | .lastForwardTimeExpiry c => channelInRange c
  | .refill c => channelInRange c
  | .deadline e => entryInRange e
  | .touchReadComplete r => reportComplete r
  | .powerOnReset => true
  | .frameHeader _ _ => true
  | .unknownTypeDiscard _ _ => true
  | .lengthOverrunDiscard _ _ => true
  | .crcMismatch _ _ => true
  | .interByteTimeout _ => true
  | .framingError => true
  | .ctsChange _ _ => true
  | .hello _ _ => true
  | .request _ _ => true
  | .post _ _ => true
  | .reply _ _ => true
  | .extend _ _ => true
  | .cancel _ _ => true
  | .drawWindow _ _ => true
  | .drawPixels _ _ => true
  | .unknownRequest _ _ => true
  | .queryLink _ _ => true
  | .queryChannel _ _ => true
  | .querySession _ _ => true
  | .queryNotices _ _ => true
  | .setNoticeMask _ _ => true
  | .hold _ _ => true
  | .release _ _ => true
  | .setBar _ _ => true
  | .clearBar _ _ => true
  | .writeChannel _ _ => true
  | .removeChannel _ _ => true
  | .writeSettings _ _ => true
  | .copyArea _ _ => true
  | .activate _ _ => true
  | .fullClear _ _ => true
  | .openSession _ _ => true
  | .closeSession _ _ => true
  | .touchRestart _ _ => true
  | .transmissionComplete _ => true
  | .stall _ => true
  | .sessionLimitExpiry => true
  | .runComplete => true
  | .attentionAssert => true
  | .touchReadNack => true
  | .timeBaseTick => true
  | .attentionRelease => true
  | .controlMalformed _ _ => true
  | .receiveAssemblyByte _ _ => true

end Sys2Proof
end

