-- ==== Sys2Proof/Tests/Slice0.lean ====
section
/-! SUPPORT. Tests. The well-formedness checks; one step of each kind of command on small states, with results worked by hand from
the rules; and for each statement with hypotheses a state that meets them (the theorems named witness_…). -/

namespace Sys2Proof.Tests

set_option Elab.async false

open Sys2Proof Sys2Proof.Machine Sys2Proof.Safety

/-! ## Well-formedness and words -/

theorem test_wf_channel_zero : (Instr.gapWaitEnd 0).wellFormed = false := by decide
theorem test_wf_channel_48 : (Instr.gapWaitEnd 48).wellFormed = true := by decide
theorem test_wf_channel_49 : (Instr.lastForwardTimeExpiry 49).wellFormed = false := by decide
theorem test_wf_refill_49 : (Instr.refill 49).wellFormed = false := by decide
theorem test_wf_entry_31 : (Instr.deadline 31).wellFormed = true := by decide
theorem test_wf_entry_32 : (Instr.deadline 32).wellFormed = false := by decide
theorem test_wf_report_10 : (Instr.touchReadComplete (List.replicate 10 0#8)).wellFormed = false := by decide
theorem test_wf_report_11 : (Instr.touchReadComplete (List.replicate 11 0#8)).wellFormed = true := by decide
theorem test_no_word_spells_a_command : decodeTableWord 8 0x01 = none := by decide
theorem test_withFetchWord_changes_nothing : State.reset.withFetchWord 8 0x01 = State.reset := by rfl

/-! ## The numbers of the rules: CRC (R156), blocks (R36), cost (R29), times (R23) -/

/-- R156: the CRC of the nine ASCII bytes "1" to "9" is 0x29B1. -/
theorem test_crc : crcOf [0x31#8, 0x32#8, 0x33#8, 0x34#8, 0x35#8, 0x36#8, 0x37#8, 0x38#8, 0x39#8] = 0x29B1#16 := by
  decide +kernel
theorem test_blocks : blocksOf 0 = 1 ∧ blocksOf 64 = 1 ∧ blocksOf 65 = 2 ∧ blocksOf 1028 = 17 := by decide
theorem test_cost : cost 0 = 1 ∧ cost 32 = 2 ∧ cost 33 = 3 := by decide
/-- R23: 5 is later than 4,294,967,290, and two times 2^31 apart are neither. -/
theorem test_later_wraps : later 5#32 0xFFFFFFFA#32 = true ∧ later 0xFFFFFFFA#32 5#32 = false ∧
    later 0x80000000#32 0#32 = false ∧ later 0#32 0x80000000#32 = false := by decide +kernel

/-! ## Small states -/

/-- What a next state shows. -/
def shows (r : Result) (f : State → Bool) : Bool :=
  match r with
  | .next t => f t
  | .fault _ => false
  | .refused _ => false

/-- Channel 1: AD to PD, metered, every flag set, two attempts. -/
def rec1 : ChannelRecord :=
  { owner := .ad, peer := .pd, cls := .payment, types := .both, kinds := 0x0003#16, maxSize := 64, creditBase := 10,
    refillPeriod := 5, gap := 20, maxOutstanding := 2, responseLimit := 500, extendStep := 300, maxExtends := 2,
    retries := 1, autoHold := true, barOnTimeout := true, quietInSession := true }
/-- Channel 2: PD to AD, unmetered, no flag. -/
def rec2 : ChannelRecord :=
  { rec1 with owner := .pd, peer := .ad, cls := .app, creditBase := 0, gap := 0, autoHold := false, barOnTimeout := false,
              quietInSession := false }
/-- Area A with the two channels, and two banner rows. -/
def area : Area :=
  { Area.default with recs := (Area.default.recs.set 0 (some rec1)).set 1 (some rec2), bannerRows := 2 }
/-- Three links UP, at 1000 ms. -/
def base : State :=
  let up : Link := { Link.initial with state := .up }
  { State.reset with time := 1000#32, links := ⟨up, up, up⟩, policy := { State.reset.policy with areaA := area } }
/-- The same with credit on channel 1. -/
def funded (n : Nat) : State := base.setChan 0 { Chan.initial with credit := n }
/-- A frame all of whose body has arrived, its running CRC 0. -/
def whole (ty : FrameType) (hold : RxHold) (body : List Byte) : RxFrame :=
  { ty := ty, len := body.length, hold := hold, got := body.length, body := body, first := body.head?, crc := 0#16 }
/-- The state in which `0x00` is the second CRC byte of the frame `f`, the first was 0x00. -/
def arrivingFrame (p : Port) (f : RxFrame) (s : State) : State :=
  s.setLink p { s.link p with rx := .crc2 f 0#8 s.time }
/-- The same for a frame held in one charged block. -/
def arriving (p : Port) (ty : FrameType) (body : List Byte) (s : State) : State :=
  (arrivingFrame p (whole ty (.charged 1) body) s).setCharged p 1
/-- A CONTROL from `p` about to be complete, its control tag 0x55. -/
def asking (p : Port) (code : Byte) (args : List Byte) (s : State) : State :=
  arriving p .control (code :: 0x55#8 :: args) s

/-- An exchange of AD on channel 1 with the tag 7. -/
def entry1 : Entry :=
  { gen := 1, st := .forwarded, chan := 0, requester := .ad, tag := some 7#8, responder := .pd, kind := 1, attempt := 1,
    fwdOnce := true, deadline := some 1000#32, extCount := 0, snap := snapshotOf rec1,
    req := some { payload := [9#8], blocks := 1 }, status := none, withdraw := false }
/-- It is FORWARDED, and its deadline is now. -/
def forwarded : State :=
  ((funded 3).setEntry 0 entry1).setChan 0 { Chan.initial with credit := 3, outstanding := 1, lastForward := some 980#32 }
    |>.setCharged .ad 1
/-- It waits in the forward queue, the gap still running. -/
def queued : State :=
  ((funded 3).setEntry 0 { entry1 with st := .queued, fwdOnce := false, deadline := none }).setChan 0
      { Chan.initial with credit := 3, outstanding := 1, fwd := [.request 0], lastForward := some 999#32 }
    |>.setCharged .ad 1
/-- It waits as a retry, the gap still running. -/
def retrying : State :=
  ((funded 3).setEntry 0 { entry1 with st := .queued, deadline := none, attempt := 2 }).setChan 0
      { Chan.initial with credit := 3, outstanding := 1, retries := [0], lastForward := some 999#32 }
    |>.setCharged .ad 1
/-- It has ended, and its reply waits. -/
def replying : State :=
  ((funded 3).setEntry 0 { entry1 with st := .replying, deadline := none, req := none, status := some .cancelled }).setChan 0
    { Chan.initial with credit := 3, outstanding := 1, ret := [{ entry := 0, frame := none }] }

/-- A session record with the rectangle 10..20 by 30..31. -/
def sess1 : SessRecord :=
  { rect := ⟨10, 20, 30, 31⟩, capture := true, limit := 5, openColour := some 7#16, start := some 500#32, closeReq := none,
    fill := none, fillColour := none }
/-- The session ACTIVE, its limit now. -/
def active : State :=
  base.setSession { state := .active, record := some sess1, secureInd := true, limitAt := some 1000#32 }
/-- The session OPENING, an AD run in progress. -/
def opening : State :=
  (base.setSession { state := .opening, record := some { sess1 with start := none }, secureInd := false, limitAt := none }).setRun
    (some { source := .frame .ad, x := 0, y := 5, dir := .row, pixels := [1#16], last := some 1 })
/-- The session CLOSING with its last fill run in progress, and a pending switch to area B. -/
def closing : State :=
  ((base.setSession ⟨.closing, some { sess1 with fill := some ⟨32, 31⟩, fillColour := some 0#16 }, false, none⟩).setRun
      (some { source := .fill, x := 10, y := 31, dir := .row, pixels := List.replicate 11 0#16, last := none })).setPolicy
    { base.policy with pendingSwitch := some .b }

theorem completes_arriving (p : Port) (f : RxFrame) (s : State) (h : f.crc = 0#16) :
    Completes (arrivingFrame p f s) p 0#8 f := by
  have hl : rxOf (arrivingFrame p f s) p = .crc2 f 0#8 s.time := by
    unfold rxOf arrivingFrame; cases p <;> rfl
  unfold Completes
  rw [hl]
  have hm : crcMatches f 0#8 0#8 = true := by unfold crcMatches; rw [h]; decide
  simp only [classify, hm, if_true]

theorem arrives_arriving (p : Port) (ty : FrameType) (body : List Byte) (s : State) (h : (s.link p).state = .up) :
    Arrives (arriving p ty body s) p 0#8 ty 1 body := by
  refine ⟨?_, whole ty (.charged 1) body, completes_arriving p _ s rfl, rfl, rfl, rfl⟩
  rw [← h]; cases p <;> rfl

theorem asks_asking (p : Port) (code : Byte) (args : List Byte) (s : State) (h : (s.link p).state = .up) :
    Asks (asking p code args s) p 0#8 1 code 0x55#8 args :=
  arrives_arriving p .control (code :: 0x55#8 :: args) s h

/-! ## States that meet the invariants -/

/-- No reply is in transmission. -/
def noReply (s : State) : Bool :=
  allPorts.all fun p => match (s.arb p).tx with
    | some t => (match t.source with | .reply _ _ _ => false | _ => true)
    | none => true

/-- The exchange invariant of a state with no reply in transmission, in a form that `decide` settles. -/
theorem exchangesOk_of {s : State} (hr : noReply s = true)
    (h1 : ∀ e : EntryIx, (s.entry e).gen < 8 ∧ ((s.entry e).deadline.isSome = true ↔ (s.entry e).st = .forwarded) ∧
      ((s.entry e).st = .forwarded → (s.entry e).fwdOnce = true) ∧
      ((s.entry e).st = .queued ∨ (s.entry e).st = .forwarded → (s.entry e).tag.isSome = true) ∧
      ((s.entry e).st = .replying → (s.entry e).tag = none → (s.entry e).withdraw = true) ∧
      ((s.entry e).st = .queued → if (s.entry e).fwdOnce then e ∈ (s.chan (s.entry e).chan).retries
        else FwdItem.request e ∈ (s.chan (s.entry e).chan).fwd) ∧
      ((s.entry e).st = .replying → (s.entry e).tag.isSome = true →
        e ∈ (s.chan (s.entry e).chan).ret.map RetItem.entry))
    (h2 : ∀ p ∈ allPorts, heldBy s p ≤ exchangeQuota p)
    (h3 : ∀ c : Chn, (s.chan c).outstanding = unanswered s c ∧ (s.chan c).retries.Nodup ∧
      (requestsOf (s.chan c).fwd).Nodup ∧ ((s.chan c).ret.map RetItem.entry).Nodup ∧
      (∀ e ∈ (s.chan c).retries, (s.entry e).st = .queued ∧ (s.entry e).fwdOnce = true ∧ (s.entry e).chan = c) ∧
      (∀ e ∈ requestsOf (s.chan c).fwd, (s.entry e).st = .queued ∧ (s.entry e).fwdOnce = false ∧ (s.entry e).chan = c) ∧
      (∀ i ∈ (s.chan c).ret,
        (s.entry i.entry).st = .replying ∧ (s.entry i.entry).tag.isSome = true ∧ (s.entry i.entry).chan = c)) :
    ExchangesOk s := by
  have hn : ∀ p e, ¬ Replying s p e := by
    rintro p e ⟨t, h, ht, hs⟩
    have : allPorts.all _ = true := hr
    rw [List.all_eq_true] at this
    have h := this p (by cases p <;> decide)
    simp [ht, hs] at h
  refine ⟨fun e => (h1 e).1, fun p => h2 p (by cases p <;> decide), fun c => (h3 c).1, fun c => (h3 c).2.2.2.2.1,
    fun c e h => (h3 c).2.2.2.2.2.1 e ?_, fun c => (h3 c).2.1, fun c => (h3 c).2.2.1, fun e => (h1 e).2.2.2.2.2.1,
    fun e => (h1 e).2.2.1, fun e => (h1 e).2.1, fun e => (h1 e).2.2.2.1, fun e => (h1 e).2.2.2.2.1,
    fun c => (h3 c).2.2.2.2.2.2, fun e h h' => .inl ?_, fun c => (h3 c).2.2.2.1, fun p e h => absurd h (hn p e)⟩
  · unfold requestsOf
    rw [List.mem_filterMap]
    exact ⟨_, h, rfl⟩
  · obtain ⟨i, hi, he⟩ := List.mem_map.mp ((h1 e).2.2.2.2.2.2 h h')
    exact ⟨i, hi, he⟩

theorem exchangesOk_forwarded : ExchangesOk forwarded :=
  exchangesOk_of (by decide +kernel) (by decide +kernel) (by decide +kernel) (by decide +kernel)
theorem exchangesOk_queued : ExchangesOk queued :=
  exchangesOk_of (by decide +kernel) (by decide +kernel) (by decide +kernel) (by decide +kernel)
theorem exchangesOk_retrying : ExchangesOk retrying :=
  exchangesOk_of (by decide +kernel) (by decide +kernel) (by decide +kernel) (by decide +kernel)
theorem exchangesOk_replying : ExchangesOk replying :=
  exchangesOk_of (by decide +kernel) (by decide +kernel) (by decide +kernel) (by decide +kernel)

/-- A command that always completes is at the front. -/
def waits (s : State) : State := { s with pending := [.attentionRelease] }
theorem waits_steps (s : State) : ∃ t, step (waits s) = .next t := ⟨_, rfl⟩

/-! ## The step and the invariants: states that meet the hypotheses -/

theorem witness_StepTakesFrontCommand :
    (waits forwarded).pending = .attentionRelease :: [] ∧ State.reset.pending = [] := ⟨rfl, rfl⟩
theorem witness_CommandsKeepQueueAndTime : Instr.timeBaseTick = .timeBaseTick ∧ Instr.powerOnReset = .powerOnReset ∧
    Instr.runComplete ≠ .timeBaseTick ∧ Instr.runComplete ≠ .powerOnReset := by decide

theorem sessionOk_active : SessionOk (waits active) := by
  refine ⟨by decide, by decide, by decide, ?_, (fun h => absurd h (by decide)), ?_, ?_⟩
  · rintro r ⟨⟩
    exact ⟨⟨by decide, by decide, by decide, by decide⟩, by decide, by decide, by decide, by decide, by decide, by decide,
      by decide, by rintro f ⟨⟩⟩
  · rintro r f ⟨⟩ ⟨⟩
  · rintro i ⟨⟩
theorem sessionOk_closing : SessionOk (waits closing) := by
  refine ⟨by decide, by decide, by decide, ?_, (fun h => absurd h (by decide)), ?_, ?_⟩
  · rintro r ⟨⟩
    exact ⟨⟨by decide, by decide, by decide, by decide⟩, by decide, by decide, by decide, by decide, by decide, by decide,
      by decide, by rintro f ⟨⟩; decide⟩
  · rintro r f ⟨⟩ ⟨⟩ _
    exact ⟨_, rfl, rfl⟩
  · rintro i ⟨⟩
    decide
theorem witness_StepKeepsSession : SessionOk (waits closing) ∧ (∃ t, step (waits closing) = .next t) ∧
    SessionOk (waits active) ∧ ∃ t, step (waits active) = .next t :=
  ⟨sessionOk_closing, waits_steps _, sessionOk_active, waits_steps _⟩

/-- The buffer at its edges: the quota of AD charged, two reserve blocks of PD in use, the error count of RD at its top; a TOUCH to AD
with one byte left to clock. -/
def full : State :=
  ((((base.setCharged .ad (blockQuota .ad)).setLink .pd { base.link .pd with reserve := 2 }).setLink .rd
      { base.link .rd with errors := 65535 }).setLink .ad { base.link .ad with stall := some 1500#32, ready := true }).setArb .ad
    { base.arb .ad with tx := some { ty := 0x89#8, body := List.replicate 10 0#8, sent := 15, source := .touch } }
theorem bufferOk_full : BufferOk (waits full) :=
  ⟨by intro p; cases p <;> decide, by intro p; cases p <;> decide, by intro p; cases p <;> decide,
    by rintro p t hp ht; cases p <;> cases ht; decide, by intro p; cases p <;> decide, by intro p; cases p <;> decide⟩
theorem witness_StepKeepsBuffer : BufferOk (waits full) ∧ ∃ t, step (waits full) = .next t := ⟨bufferOk_full, waits_steps _⟩

/-- A DOWN of slot 0. -/
def down0 : TouchEvent := { kind := .down, slot := 0, px := 1, py := 2, time := 9#32 }
/-- A full forward queue, a full draw queue, a full touch queue, and the touch link in FAULT. -/
def brim : State :=
  (((base.setChan 0 { Chan.initial with
        fwd := List.replicate 4 (.post { sender := .ad, peer := .pd, label := 1#8, kind := 0, payload := [], blocks := 1 }) }).setDraw
      .ad { Draw.initial with queue := List.replicate 4 (.window .default 1) }).setTouch
    { base.touch with link := .fault, failures := 3 }).setTouchQueue .pd (List.replicate 8 down0)
theorem queuesOk_brim : QueuesOk (waits brim) :=
  ⟨by decide +kernel, by intro x; cases x <;> decide, by intro x; cases x <;> decide, by decide, by decide⟩
theorem witness_StepKeepsQueues : QueuesOk (waits brim) ∧ ∃ t, step (waits brim) = .next t := ⟨queuesOk_brim, waits_steps _⟩

theorem witness_StepKeepsCredit : CreditOk (waits (funded 10)) ∧ ∃ t, step (waits (funded 10)) = .next t :=
  ⟨by unfold CreditOk; decide +kernel, waits_steps _⟩

/-- The session ACTIVE with a run of AD below its rectangle in progress. -/
def below : State :=
  active.setRun (some { source := .frame .ad, x := 10, y := 32, dir := .row, pixels := [1#16, 2#16], last := none })
theorem panelOk_below : PanelOk (waits below) := by
  rintro - r ⟨⟩ - q ⟨⟩
  decide
theorem witness_StepKeepsPanel : PanelOk (waits below) ∧ ((waits below).session.state = .active ∨
    (waits below).session.state = .closing) ∧ AdRun (waits below) ∧ ∃ t, step (waits below) = .next t :=
  ⟨panelOk_below, .inl rfl, ⟨_, rfl, rfl⟩, waits_steps _⟩

theorem exchangesOk_at {s t : State} (h : ExchangesOk s) (h1 : t.exch = s.exch) (h2 : t.chans = s.chans)
    (h3 : t.arbs = s.arbs) : ExchangesOk t := by
  obtain ⟨a1, a2, a3, a4, a5, a6, a7, a8, a9, a10, a11, a12, a13, a14⟩ := s
  obtain ⟨b1, b2, b3, b4, b5, b6, b7, b8, b9, b10, b11, b12, b13, b14⟩ := t
  cases h1; cases h2; cases h3
  exact ⟨h.generation, h.quota, h.outstanding, h.retry, h.waiting, h.retriesOnce, h.waitingOnce, h.queued, h.forwarded,
    h.deadline, h.tagged, h.answered, h.returned, h.due, h.returnedOnce, h.sending⟩

theorem witness_StepKeepsExchanges : ExchangesOk (waits forwarded) ∧ (∃ t, step (waits forwarded) = .next t) ∧
    ExchangesOk (waits retrying) ∧ ∃ t, step (waits retrying) = .next t :=
  ⟨exchangesOk_at exchangesOk_forwarded rfl rfl rfl, waits_steps _, exchangesOk_at exchangesOk_retrying rfl rfl rfl,
    waits_steps _⟩

theorem areaInRange_area : AreaInRange area := by
  have h : ∀ c : Fin 48, ∀ r ∈ (area.recs.get c).toList, r = rec1 ∨ r = rec2 := by decide +kernel
  refine ⟨?_, by intro p; cases p <;> decide, by decide⟩
  intro c r hr
  rcases h c r (by rw [hr]; exact List.mem_singleton.mpr rfl) with rfl | rfl <;> constructor <;> decide
theorem areaInRange_default : AreaInRange Area.default := by
  refine ⟨?_, by intro p; cases p <;> decide, by decide⟩
  intro c r hr
  have h : ∀ c : Fin 48, Area.default.recs.get c = none := by decide +kernel
  rw [h c] at hr
  cases hr
theorem areasOk_forwarded : AreasOk (waits forwarded) := ⟨areaInRange_area, areaInRange_default⟩
theorem portsDiffer_forwarded : PortsDiffer forwarded := by unfold PortsDiffer; decide +kernel
theorem witness_StepKeepsPortsDiffer : ExchangesOk (waits forwarded) ∧ AreasOk (waits forwarded) ∧
    PortsDiffer (waits forwarded) ∧ ∃ t, step (waits forwarded) = .next t :=
  ⟨exchangesOk_at exchangesOk_forwarded rfl rfl rfl, areasOk_forwarded, portsDiffer_forwarded, waits_steps _⟩
theorem witness_StepKeepsAreas : AreasOk (waits forwarded) ∧ ∃ t, step (waits forwarded) = .next t :=
  ⟨areasOk_forwarded, waits_steps _⟩

/-- A NOTICE of PD waits, a NOTICE of AD is in transmission. -/
def noticing : State :=
  (((base.setNotice .pd { mask := 0x01FF#16, set := 0x0001#16, st := .waiting, again := false }).setArb .pd
      { base.arb .pd with iq := [{ what := .notice, block := .pool }] }).setNotice .ad
    { mask := 0x0003#16, set := 0x0003#16, st := .sending, again := true }).setArb .ad
    { base.arb .ad with tx := some { ty := 0x88#8, body := [1#8, 0#8], sent := 0, source := .notice } }
theorem noticesOk_noticing : NoticesOk (waits noticing) := by
  refine ⟨by intro p; cases p <;> decide, ?_, by intro p; cases p <;> decide, by intro p; cases p <;> decide⟩
  intro p
  cases p
  · exact ⟨fun _ => ⟨_, rfl, rfl⟩, fun _ => rfl⟩
  · exact ⟨fun h => absurd h (by decide), fun ⟨_, h, _⟩ => by cases h⟩
  · exact ⟨fun h => absurd h (by decide), fun ⟨_, h, _⟩ => by cases h⟩
theorem witness_StepKeepsNotices : NoticesOk (waits noticing) ∧ ∃ t, step (waits noticing) = .next t :=
  ⟨noticesOk_noticing, waits_steps _⟩

/-- A pixel frame of AD under work, its cursor at the corner of a window of one column. -/
def drawing : State :=
  base.setDraw .ad
    { queue := [.pixels [1#16, 2#16, 3#16] 1, .window ⟨⟨0, 319, 239, 239⟩, .column⟩ 1], window := ⟨⟨7, 7, 0, 239⟩, .row⟩, cx := 7,
      cy := 239, next := some 2 }
theorem drawsOk_drawing : DrawsOk (waits drawing) := by
  intro x
  cases x
  · refine ⟨⟨by decide, by decide, by decide, by decide⟩, by decide, ?_, ?_⟩
    · intro w n h
      have : w = ⟨⟨0, 319, 239, 239⟩, .column⟩ := by
        rcases List.mem_cons.mp h with h | h
        · cases h
        · cases List.mem_singleton.mp h; rfl
      subst this
      exact ⟨by decide, by decide, by decide, by decide⟩
    · rintro k ⟨⟩
      exact ⟨_, _, _, rfl, by decide⟩
  · refine ⟨⟨by decide, by decide, by decide, by decide⟩, by decide, ?_, ?_⟩
    · rintro w n ⟨⟩
    · rintro k ⟨⟩
theorem witness_StepKeepsDraws : DrawsOk (waits drawing) ∧ ∃ t, step (waits drawing) = .next t :=
  ⟨drawsOk_drawing, waits_steps _⟩

theorem witness_QuotasSuffice : (∃ s, QueuesOk s ∧ BufferOk s) ∧ ExchangesOk forwarded ∧ heldBy forwarded .ad = 1 ∧
    heldBy forwarded .ad < exchangeQuota .ad := by
  refine ⟨⟨waits full, ⟨by decide +kernel, ?_, ?_, by decide, by decide⟩, bufferOk_full⟩, exchangesOk_forwarded,
    by decide +kernel, by decide +kernel⟩
  · intro x; cases x <;> decide
  · intro x; cases x <;> decide

theorem witness_OtherPortsKeepPolicyAndSession : byteOf (.activate .ad 0x00#8) = some (.ad, 0x00#8) ∧ Port.ad ≠ .pd ∧
    ∃ t, exec (.activate .ad 0x00#8) (asking .ad 0x24#8 [1#8] base) = .next t := ⟨rfl, by decide, _, rfl⟩

theorem witness_ActiveAreaStandsInSession : ∃ t, step (waits active) = .next t ∧ t.session.state ≠ .idle :=
  ⟨_, rfl, by decide⟩

/-! ## The arbiters: states that meet the hypotheses -/

theorem witness_SettleFrame : ExchangesOk forwarded ∧ (forwarded.entry 0).st ≠ .queued ∧ below.run.isSome = true ∧
    (noticing.arb .ad).tx.isSome = true := ⟨exchangesOk_forwarded, by decide, by decide, by decide⟩

theorem witness_NothingEligibleWaits : ((settle base).link .ad).state = .up ∧ ((settle base).arb .ad).tx = none ∧
    (settle base).run = none := by decide +kernel

/-- Numbers 3 and 5 are absent, so of class APP. With the pointer at 5 the order starts behind it and comes to 3 first (R80). -/
theorem witness_PickFollowsClassAndMode :
    pick base .rotating ⟨none, none, some 4⟩ (fun c => c == 4 || c == 2) = some 2 ∧ classOfChn base 4 = classOfChn base 2 ∧
      pick base .fixed .none (fun _ => false) = none := by decide +kernel

/-- A touch event waits for AD. -/
def touching : State := base.setTouchQueue .ad [down0]
/-- A state for each of the four steps, and one where no step has a candidate because the gap still runs. -/
theorem witness_GrantTakesFirstStep :
    (let s := base.setArb .ad { base.arb .ad with iq := [{ what := .notice, block := .pool }] }
     (s.link .ad).state = .up ∧ (s.arb .ad).tx = none ∧ (s.arb .ad).iq = { what := .notice, block := .pool } :: [] ∧
       ((grant .ad s).arb .ad).tx.isSome = true) ∧
    ((touching.link .ad).state = .up ∧ (touching.arb .ad).tx = none ∧ (touching.arb .ad).iq = [] ∧
      touchHead touching .ad = some down0) ∧
    ((replying.link .ad).state = .up ∧ (replying.arb .ad).tx = none ∧ (replying.arb .ad).iq = [] ∧
      touchHead replying .ad = none ∧ pickReply replying .ad = some 0 ∧
      (replying.chan 0).ret = { entry := 0, frame := none } :: [] ∧
      (replying.entry 0).tag = some 7#8 ∧ (replying.entry 0).status = some .cancelled) ∧
    (let s := { queued with time := 1019#32 }
     (s.link .pd).state = .up ∧ (s.arb .pd).tx = none ∧ (s.arb .pd).iq = [] ∧ touchHead s .pd = none ∧
      pickReply s .pd = none ∧ pickForward s .pd = some 0) ∧
    ((queued.link .pd).state = .up ∧ (queued.arb .pd).tx = none ∧ (queued.arb .pd).iq = [] ∧ touchHead queued .pd = none ∧
      pickReply queued .pd = none ∧ pickForward queued .pd = none) := by decide +kernel

/-- A post of PD for AD. -/
def postItem : PostItem := { sender := .pd, peer := .ad, label := 3#8, kind := 1, payload := [5#8], blocks := 1 }
/-- It stands at the head of the forward queue of number 2. -/
def posted : State := base.setChan 1 { Chan.initial with fwd := [.post postItem] }
theorem exchangesOk_posted : ExchangesOk posted :=
  exchangesOk_of (by decide +kernel) (by decide +kernel) (by decide +kernel) (by decide +kernel)
theorem witness_GrantOfForward : (retrying.chan 0).retries = 0 :: [] ∧
    ((queued.chan 0).retries = [] ∧ (queued.chan 0).fwd = .request 0 :: [] ∧
      (queued.entry 0).req = some { payload := [9#8], blocks := 1 }) ∧
    ((posted.chan 1).retries = [] ∧
      (posted.chan 1).fwd = .post postItem :: []) ∧
    (1 : Chn) ≠ 0 ∧ (1 : EntryIx) ≠ 0 := by decide +kernel

/-- AD's pixels start in the last column left of the rectangle; PD's frame waits as well in the second state. -/
def adPixels : State :=
  active.setDraw .ad { Draw.initial with queue := [.pixels [1#16, 2#16, 3#16] 1], window := ⟨⟨8, 30, 30, 31⟩, .row⟩, cx := 8, cy := 30 }
theorem witness_PanelTakes :
    (formFor adPixels .ad).run = some { source := .frame .ad, x := 8, y := 30, dir := .row, pixels := [1#16, 2#16], last := none } ∧
    adPixels.session.record = some sess1 ∧ adPixels.session.state ≠ .idle ∧ below.run.isSome = true ∧
    (let s := base.setDraw .pd { Draw.initial with queue := [.pixels [1#16] 1] }
     s.run = none ∧ (formFor s .pd).run = some { source := .frame .pd, x := 0, y := 0, dir := .row, pixels := [1#16], last := some 1 }) ∧
    (let s := base.setSession ⟨.closing, some { sess1 with fill := some ⟨31, 31⟩, fillColour := some 7#16 }, false, none⟩
     s.run = none ∧ (formFor s .pd).run = none ∧
       fillRun s = some { source := .fill, x := 10, y := 31, dir := .row, pixels := List.replicate 11 7#16, last := none }) ∧
    (closing.session.state = .closing ∧ ∃ q f c, closing.session.record = some q ∧ q.fill = some f ∧ q.fillColour = some c ∧
      f.last < f.next) ∧
    (adPixels.run = none ∧ (formFor adPixels .pd).run = none ∧ fillRun adPixels = none) := by
  refine ⟨by decide +kernel, by decide +kernel, by decide +kernel, by decide +kernel, by decide +kernel, by decide +kernel,
    ⟨rfl, _, _, _, rfl, rfl, rfl, by decide⟩, by decide +kernel⟩

/-- The head of a draw queue in each case of a formation: none, a window, a frame whose pixels all stand in banner rows, and a frame
whose first pixel stands in the last banner row and its second and last one below. -/
def headed (q : List DrawFrame) (cx cy : Nat) : State := base.setDraw .ad { Draw.initial with queue := q, cx := cx, cy := cy }
theorem witness_PanelTakes_formation :
    (base.draw .ad).queue = [] ∧
    (let s := headed [.window ⟨⟨5, 6, 7, 8⟩, .column⟩ 1, .pixels [9#16] 1] 0 0
     (s.draw .ad).queue = .window ⟨⟨5, 6, 7, 8⟩, .column⟩ 1 :: [.pixels [9#16] 1] ∧
       (formFor s .ad).run = some { source := .frame .ad, x := 5, y := 7, dir := .column, pixels := [9#16], last := some 1 } ∧
       (formFor s .ad).released = 1) ∧
    (let s := headed [.pixels [1#16, 2#16] 3] 318 1
     (∀ k, k < 2 → maskFor s .ad (cursorAfter (s.draw .ad) k).1 (cursorAfter (s.draw .ad) k).2 = true) ∧
       formFor s .ad = { draw := { Draw.initial with cx := 0, cy := 2 }, released := 3, run := none }) ∧
    (let s := headed [.pixels [1#16, 2#16] 3] 319 1
     0 + 1 < 2 ∧ (∀ k, k < 1 → maskFor s .ad (cursorAfter (s.draw .ad) k).1 (cursorAfter (s.draw .ad) k).2 = true) ∧
       maskFor s .ad (cursorAfter (s.draw .ad) 1).1 (cursorAfter (s.draw .ad) 1).2 = false ∧
       formFor s .ad =
         { draw := { Draw.initial with cx := 1, cy := 2 }, released := 0,
           run := some { source := .frame .ad, x := 0, y := 2, dir := .row, pixels := [2#16], last := some 3 } }) := by
  decide +kernel

theorem witness_CursorComesBack : RectOk (Window.mk ⟨319, 319, 0, 239⟩ .column).rect ∧ 0 < 1 ∧
    1 < (319 - 319 + 1) * (239 - 0 + 1) := ⟨⟨by decide, by decide, by decide, by decide⟩, by decide, by decide⟩

/-! ## Bytes and headers: states that meet the hypotheses -/

/-- Receive assembly of `p` is `rx`. -/
def receiving (p : Port) (rx : Rx) (s : State) : State := s.setLink p { s.link p with rx := rx }
/-- A frame in transmission on the link of `p`. -/
def sending (p : Port) (t : Tx) (s : State) : State := s.setArb p { s.arb p with tx := some t }
/-- A TOUCH with `n` bytes presented. -/
def touchTx (n : Nat) : Tx := { ty := 0x89#8, body := touchBody down0, sent := n, source := .touch }
/-- A REQUEST of 2 body bytes with one received. -/
def half (hold : RxHold) (got : Nat) : RxFrame :=
  { ty := .request, len := 2, hold := hold, got := got, body := List.replicate got 1#8, first := some 1#8, crc := 0#16 }

theorem witness_AssemblyByte :
    classify (rxOf base .ad) 0xC3#8 = .assembly ∧ (base.arb .ad).tx = none ∧
    (∀ n ∈ [0, 15], ((sending .ad (touchTx n) base).arb .ad).tx = some (touchTx n) ∧
      (touchTx n).sent < (touchTx n).body.length + 6) ∧
    rxOf base .ad = .hunt ∧
    (rxOf (receiving .rd (.type 1#32) base) .rd = .type 1#32 ∧ frameTypeOf 0x09#8 = some .drawPixels ∧
      classify (.type 1#32) 0x09#8 = .assembly) ∧
    classify (.length1 .hello 1#32) 0xFF#8 = .assembly ∧ classify (.crc1 (half (.charged 1) 2) 1#32) 0#8 = .assembly ∧
    (∀ g ∈ [0, 1], classify (.body (half (.charged 1) g) 1#32) 0#8 = .assembly ∧ (half (.charged 1) g).hold = .charged 1) ∧
    (∀ h ∈ [RxHold.reserve, .dropped, .uncharged], (half h 1).hold = h ∧ classify (.body (half h 1) 1#32) 0#8 = .assembly) ∧
    classify (.late (half .uncharged 2) 0#8) 1#8 = .assembly := by decide +kernel

/-- A header of 65 bytes (two blocks) with 94 of the 96 blocks of AD charged is charged; with 95 it takes a reserve block, and with two
of those in use it is dropped. On a DOWN link it is received without charge, a HELLO with charge. -/
theorem witness_FrameHeaderHeld :
    classify (.length2 .request 65#8 1#32) 0#8 = .header .request 65#8 ∧
    classify (.length2 .request 0x10#8 1#32) 0x04#8 = .header .request 0x10#8 ∧
    (let s := receiving .ad (.length2 .request 65#8 1#32) base
     rxOf s .ad = .length2 .request 65#8 1#32 ∧ (s.link .ad).state = .up ∧
      2 + (s.setCharged .ad (blockQuota .ad - 2)).chargedTo .ad ≤ blockQuota .ad ∧
      (blockQuota .ad < 2 + (s.setCharged .ad (blockQuota .ad - 1)).chargedTo .ad ∧ (s.link .ad).reserve < 2)) ∧
    (let s := (receiving .pd (.length2 .request 65#8 1#32) full).setCharged .pd (blockQuota .pd)
     rxOf s .pd = .length2 .request 65#8 1#32 ∧ (s.link .pd).state = .up ∧ blockQuota .pd < 2 + s.chargedTo .pd ∧
      2 ≤ (s.link .pd).reserve) ∧
    ((receiving .rd (.length2 .post 0#8 1#32) State.reset).link .rd).state ≠ .up ∧ FrameType.post ≠ .hello := by
  decide +kernel

theorem witness_SyncCandidateDiscarded :
    classify (rxOf (receiving .ad (.type 1#32) base) .ad) 0xC3#8 = .unknownType ∧
    classify (rxOf (receiving .ad (.type 1#32) base) .ad) 0x0A#8 = .unknownType ∧
    classify (rxOf (receiving .ad (.length2 .hello 0x11#8 1#32) base) .ad) 0x04#8 = .lengthOverrun .hello 0x11#8 ∧
    classify (rxOf (receiving .ad (.length2 .hello 0xC3#8 1#32) base) .ad) 0x09#8 = .lengthOverrun .hello 0xC3#8 ∧
    frameTypeOf 0x09#8 = some .drawPixels ∧
    classify (rxOf (receiving .ad (.length2 .hello 0xC3#8 1#32) base) .ad) 0xC3#8 = .lengthOverrun .hello 0xC3#8 ∧
    frameTypeOf 0xC3#8 = none := by decide +kernel

theorem witness_BrokenFramesReleased :
    classify (rxOf (arrivingFrame .ad (half (.charged 1) 2) base) .ad) 1#8 = .crcMismatch (half (.charged 1) 2) ∧
    (let s := receiving .rd (.body (half .reserve 1) 979#32) base
     lastSeen (rxOf s .rd) = some 979#32 ∧ s.time = 979#32 + 21#32 ∧ partialFrame (rxOf s .rd) = some (half .reserve 1)) ∧
    (let s := receiving .rd (.type 1000#32) base
     lastSeen (rxOf s .rd) = some 1000#32 ∧ partialFrame (rxOf s .rd) = none) ∧
    rxOf base .rd = .hunt ∧
    rxOf (receiving .rd (.late (half .uncharged 2) 0#8) base) .rd = .late (half .uncharged 2) 0#8 := by decide +kernel

theorem witness_LevelInputs : base.touch.link = .idle ∧ brim.touch.link ≠ .idle := by decide

theorem witness_GoodFramesNotTaken :
    byteOf (.request .ad 0#8) = some (.ad, 0#8) ∧ frameTypeTaken (.request .ad 0#8) = some .request ∧
    byteOf (.hello .ad 0#8) = some (.ad, 0#8) ∧ frameTypeTaken (.hello .ad 0#8) = some .hello ∧
    (∀ ty hold body, Completes (arrivingFrame .ad (whole ty hold body) base) .ad 0#8 (whole ty hold body)) ∧
    FrameType.request ≠ .hello ∧ (whole .request .reserve [1#8]).hold = .reserve ∧
    (whole .request .uncharged [1#8]).hold = .uncharged ∧ (whole .request .dropped []).hold = .dropped ∧
    (whole .hello (.charged 1) [1#8]).len ≠ 0 ∧ (whole .hello .reserve [1#8]).hold = .reserve ∧
    ((whole .hello .uncharged [1#8]).len ≠ 0 ∧ (whole .hello .uncharged [1#8]).hold = .uncharged) :=
  ⟨rfl, rfl, rfl, rfl, fun _ _ _ => completes_arriving _ _ _ rfl, by decide, rfl, rfl, rfl, by decide, rfl, by decide, rfl⟩

/-! ## HELLO -/

theorem witness_HelloBringsLinkUp :
    (∀ hold, Completes (arrivingFrame .ad (whole .hello hold []) State.reset) .ad 0#8 (whole .hello hold [])) ∧
    (∀ hold, (whole .hello hold []).ty = .hello ∧ (whole .hello hold []).len = 0) ∧
    ((arrivingFrame .ad (whole .hello (.charged 1) []) State.reset).link .ad).state ≠ .up ∧
    ((∃ n, (whole .hello (.charged 1) []).hold = .charged n) ∧ (whole .hello .reserve []).hold = .reserve) ∧ Port.pd ≠ .ad ∧
    (let s := State.reset.setCharged .ad (blockQuota .ad - 1)
     (whole .hello .uncharged []).hold = .uncharged ∧ s.chargedTo .ad < blockQuota .ad) ∧
    (let s := (full.setCharged .ad (blockQuota .ad)).setLink .ad { full.link .ad with state := .stalled, reserve := 1 }
     (s.link .ad).state ≠ .up ∧ blockQuota .ad ≤ s.chargedTo .ad ∧ (s.link .ad).reserve < 2) :=
  ⟨fun _ => completes_arriving _ _ _ rfl, fun _ => ⟨rfl, rfl⟩, by decide, ⟨⟨1, rfl⟩, rfl⟩, by decide, by decide, by decide⟩

/-- PD, which serves the exchange in FORWARDED, restarts. -/
def restarting : State := arrivingFrame .pd (whole .hello (.charged 1) []) forwarded
theorem witness_HelloRestartsPort :
    Completes restarting .pd 0#8 (whole .hello (.charged 1) []) ∧ (restarting.link .pd).state = .up ∧ ExchangesOk restarting ∧
    PortsDiffer restarting ∧ live restarting 0 = true ∧ (restarting.entry 0).responder = .pd ∧
    (restarting.entry 0).st = .forwarded ∧ (restarting.entry 0).withdraw = false ∧ recordOf restarting 0 = some rec1 ∧
    rec1.peer = .pd ∧ screenOf .pd = some .pd ∧
    (∀ v ∈ [active.session, opening.session, closing.session],
      let s := arrivingFrame .pd (whole .hello (.charged 1) []) (forwarded.setSession v)
      Completes s .pd 0#8 (whole .hello (.charged 1) []) ∧ (s.link .pd).state = .up ∧ ExchangesOk s ∧ PortsDiffer s ∧
        s.session = v ∧ v.record.isSome = true) ∧
    (active.session.state = .active ∧ opening.session.state = .opening ∧ closing.session.state = .closing) :=
  ⟨completes_arriving _ _ _ rfl, by decide, exchangesOk_at exchangesOk_forwarded rfl rfl rfl, portsDiffer_forwarded,
    by decide, by decide, by decide, by decide, by decide, by decide, rfl,
    fun v hv => ⟨completes_arriving _ _ _ rfl, rfl, exchangesOk_at exchangesOk_forwarded rfl rfl rfl, portsDiffer_forwarded,
      rfl, by revert v; decide⟩, by decide⟩

/-- The exchange of AD has ended, its reply and its WITHDRAW to PD both waiting. -/
def tidying : State :=
  (replying.setEntry 0 { replying.entry 0 with withdraw := true }).setArb .pd
    { base.arb .pd with iq := [{ what := .withdraw 0, block := .pool }] }
theorem exchangesOk_tidying : ExchangesOk tidying :=
  exchangesOk_of (by decide +kernel) (by decide +kernel) (by decide +kernel) (by decide +kernel)
/-- AD's panel work and contact: a run of its head frame in progress, another frame behind it, a contact in slot 1. -/
def panelBusy (s : State) : State :=
  ((s.setDraw .ad { Draw.initial with queue := [.pixels [1#16, 2#16, 3#16] 2, .window .default 1], next := some 1 }).setRun
      (some { source := .frame .ad, x := 10, y := 32, dir := .row, pixels := [1#16], last := none })).setTouch
    { s.touch with slot1 := some { owner := some .ad, px := 1, py := 2 } }
/-- The port `p` of a state with three links UP restarts. -/
theorem restarts (p : Port) {s : State} (hu : (s.link p).state = .up) (he : ExchangesOk s) (hp : PortsDiffer s) :
    let t := arrivingFrame p (whole .hello (.charged 1) []) s
    Completes t p 0#8 (whole .hello (.charged 1) []) ∧ (t.link p).state = .up ∧ ExchangesOk t ∧ PortsDiffer t :=
  ⟨completes_arriving _ _ _ rfl, by rw [← hu]; cases p <;> rfl, exchangesOk_at he rfl rfl rfl, hp⟩
theorem portsDiffer_of {s : State} (h : ∀ e : EntryIx, live s e = true → (s.entry e).requester ≠ (s.entry e).responder) :
    PortsDiffer s := h
/-- A restart of AD meets each clause about its own exchanges, posts toward it, the run in progress and its contact; a restart of PD
one about a WITHDRAW discarded. -/
theorem witness_HelloRestartsPort_requester :
    (∀ s ∈ [forwarded, queued, replying, tidying, posted, panelBusy base],
      (s.link .ad).state = .up ∧ (s.link .pd).state = .up) ∧
    (ExchangesOk queued ∧ PortsDiffer queued ∧ ExchangesOk replying ∧ PortsDiffer replying ∧ ExchangesOk tidying ∧
      PortsDiffer tidying ∧ ExchangesOk posted ∧ PortsDiffer posted ∧ ExchangesOk (panelBusy base) ∧
      PortsDiffer (panelBusy base)) ∧
    ((forwarded.entry 0).requester = .ad ∧ isOpen forwarded 0 = true ∧ toldOfDrop forwarded .ad 0 = true) ∧
    (isOpen queued 0 = true ∧ toldOfDrop queued .ad 0 = false ∧ (queued.entry 0).withdraw = false) ∧
    ((replying.entry 0).st = .replying ∧ (replying.entry 0).tag.isSome = true ∧ (replying.entry 0).withdraw = false) ∧
    ((tidying.entry 0).requester ≠ .pd ∧ (tidying.entry 0).st = .replying ∧ (tidying.entry 0).tag.isSome = true ∧
      (tidying.entry 0).withdraw = true ∧ (tidying.arb .ad).iq = [] ∧
      (tidying.arb .pd).iq = { what := .withdraw 0, block := .pool } :: []) ∧
    ((posted.chan 1).fwd = .post postItem :: [] ∧ postItem.peer = .ad) ∧
    (∃ r f q, (panelBusy base).run = some r ∧ r.source = .frame .ad ∧ screenOf .ad = some .ad ∧ r.last = none ∧
      ((panelBusy base).draw .ad).queue = f :: q) ∧
    contactAt (panelBusy base) 1 = some { owner := some .ad, px := 1, py := 2 } ∧
    (ExchangesOk noticing ∧ PortsDiffer noticing ∧ (noticing.link .pd).state = .up ∧
      (noticing.arb .pd).iq = { what := .notice, block := .pool } :: []) :=
  ⟨by decide, ⟨exchangesOk_queued, portsDiffer_of (by decide +kernel), exchangesOk_replying, portsDiffer_of (by decide +kernel),
      exchangesOk_tidying, portsDiffer_of (by decide +kernel), exchangesOk_posted, portsDiffer_of (by decide +kernel),
      exchangesOk_of (by decide +kernel) (by decide +kernel) (by decide +kernel) (by decide +kernel),
      portsDiffer_of (by decide +kernel)⟩,
    by decide, by decide, by decide, by decide, by decide, ⟨_, _, _, rfl, rfl, rfl, rfl, rfl⟩, rfl,
    exchangesOk_of (by decide +kernel) (by decide +kernel) (by decide +kernel) (by decide +kernel),
    portsDiffer_of (by decide +kernel), by decide, by decide⟩

/-! ## Requests and posts -/

/-- A message of number 1 with tag 7, kind 1 and a payload of `n` bytes. -/
def msg (n : Nat) : Message := { chan := 1#8, second := 7#8, kind := 1, payload := List.replicate n 0#8 }
/-- The body of that message. -/
def msgBody (n : Nat) : List Byte := [1#8, 7#8, 1#8, 0#8] ++ List.replicate n 0#8
/-- A REQUEST of AD with 32 payload bytes (cost 2) about to be complete, in a state `s`. -/
def requesting (s : State) : State := arriving .ad .request (msgBody 32) s
theorem arrives_requesting (s : State) (h : (s.link .ad).state = .up) :
    Arrives (requesting s) .ad 0#8 .request 1 (msgBody 32) := arrives_arriving .ad .request _ s h
theorem allowed_msg (s : State) (b : Bool) (h : recordOf s 0 = some rec1) : Allowed s .ad (msg 32) b 0 rec1 :=
  ⟨by decide, h, by decide, by cases b <;> decide, by decide, by decide⟩

/-- Credit 2 is the cost exactly. -/
theorem witness_RequestAdmitted :
    let s := requesting (funded 2)
    Arrives s .ad 0#8 .request 1 (msgBody 32) ∧ readMessage (msgBody 32) = some (msg 32) ∧
      entryOfTag s .ad (msg 32).second = none ∧ Allowed s .ad (msg 32) false 0 rec1 ∧ (s.chan 0).bar = false ∧
      effectiveHold s 0 = false ∧ (s.link rec1.peer).state = .up ∧ (s.chan 0).outstanding < rec1.maxOutstanding ∧
      (s.chan 0).fwd.length < 4 ∧ heldBy s .ad < exchangeQuota .ad ∧ lowestFree s = some 0 ∧
      1 + ((msg 32).payload.length + 31) / 32 ≤ (s.chan 0).credit :=
  ⟨arrives_requesting _ (by decide), by decide +kernel, by decide +kernel, allowed_msg _ _ (by decide +kernel),
    by decide +kernel, by decide +kernel, by decide +kernel, by decide +kernel, by decide +kernel, by decide +kernel,
    by decide +kernel, by decide +kernel⟩

/-- The credit of channel 1 has been refilled at `t`. -/
def refilled (t : Time) : State :=
  base.setChan 0 { Chan.initial with credit := 10, refillAt := some 1050#32, lastRefill := some t }
/-- The refill of this millisecond, and one of another, before an admission. -/
theorem witness_RequestAdmitted_refill (t : Time) :
    1 + ((msg 32).payload.length + 31) / 32 ≤ ((requesting (refilled t)).chan 0).credit ∧
    ((requesting (refilled t)).chan 0).lastRefill = some t ∧ (requesting (refilled t)).time = 1000#32 ∧
    (1000#32 : Time) ≠ 999#32 ∧ rec1.creditBase ≠ 0 :=
  ⟨show 1 + ((msg 32).payload.length + 31) / 32 ≤ 10 by decide, rfl, rfl, by decide, by decide⟩

/-- A state for each of the nine checks. Step 3 fails on channel 2, which is PD's. -/
theorem witness_RequestRefused :
    (∀ s : State, (s.link .ad).state = .up → Arrives (requesting s) .ad 0#8 .request 1 (msgBody 32)) ∧
    (Arrives (arriving .ad .request [1#8, 7#8, 1#8] base) .ad 0#8 .request 1 [1#8, 7#8, 1#8] ∧
      readMessage [1#8, 7#8, 1#8] = none) ∧
    readMessage (msgBody 32) = some (msg 32) ∧
    entryOfTag (requesting forwarded) .ad (msg 32).second ≠ none ∧
    (let s := arriving .ad .request [2#8, 7#8, 1#8, 0#8] base
     readMessage [2#8, 7#8, 1#8, 0#8] = some { msg 0 with chan := 2#8 } ∧
       ∀ c r, ¬ Allowed s .ad { msg 0 with chan := 2#8 } false c r) ∧
    (∀ s : State, recordOf s 0 = some rec1 → Allowed s .ad (msg 32) false 0 rec1) ∧
    (let s := requesting ((funded 1).setChan 0 { Chan.initial with bar := true })
     entryOfTag s .ad 7#8 = none ∧ recordOf s 0 = some rec1 ∧ (s.chan 0).bar = true) ∧
    (let s := requesting active
     (s.chan 0).bar = false ∧ effectiveHold s 0 = true) ∧
    (let s := requesting ((funded 1).setLink .pd { base.link .pd with state := .stalled })
     effectiveHold s 0 = false ∧ (s.link rec1.peer).state ≠ .up) ∧
    (let s := requesting ((funded 1).setChan 0 { Chan.initial with outstanding := 2 })
     (s.link rec1.peer).state = .up ∧ rec1.maxOutstanding ≤ (s.chan 0).outstanding) ∧
    (let s := requesting ((List.finRange 16).foldl (fun s e => s.setEntry ⟨e.val, by omega⟩ { entry1 with chan := 5, tag := none }) (funded 1))
     entryOfTag s .ad 7#8 = none ∧ (s.chan 0).outstanding < rec1.maxOutstanding ∧ (s.chan 0).fwd.length < 4 ∧
       exchangeQuota .ad ≤ heldBy s .ad) ∧
    (let s := requesting (funded 1)
     entryOfTag s .ad 7#8 = none ∧ heldBy s .ad < exchangeQuota .ad ∧ lowestFree s ≠ none ∧ rec1.creditBase ≠ 0 ∧
       (s.chan 0).credit < 1 + ((msg 32).payload.length + 31) / 32) := by
  refine ⟨arrives_requesting, ⟨arrives_arriving _ _ _ _ (by decide), by decide +kernel⟩, by decide +kernel,
    by decide +kernel, ⟨by decide +kernel, ?_⟩, fun s h => allowed_msg s false h, by decide +kernel, by decide +kernel,
    by decide +kernel, by decide +kernel, by decide +kernel, by decide +kernel⟩
  intro c r h
  have hc : c = 1 := by
    have := h.number
    ext
    simp only at this
    have h2 : (2#8 : Byte).toNat = 2 := by decide
    rw [h2] at this
    change c.val = 1
    omega
  have hr := h.record
  rw [hc] at hr
  have : recordOf (arriving .ad .request [2#8, 7#8, 1#8, 0#8] base) 1 = some rec2 := by decide +kernel
  rw [this] at hr
  cases hr
  exact absurd h.owner (by decide)

/-- A POST of AD with 32 payload bytes (cost 2) about to be complete. -/
def posting (s : State) : State := arriving .ad .post (msgBody 32) s

theorem witness_PostAdmittedOrRefused :
    (∀ s : State, (s.link .ad).state = .up → Arrives (posting s) .ad 0#8 .post 1 (msgBody 32)) ∧
    (Arrives (arriving .ad .post [1#8, 7#8, 1#8] base) .ad 0#8 .post 1 [1#8, 7#8, 1#8] ∧ readMessage [1#8, 7#8, 1#8] = none) ∧
    readMessage (msgBody 32) = some (msg 32) ∧
    (∀ c r, ¬ Allowed (posting State.reset) .ad (msg 32) true c r) ∧
    (∀ s : State, recordOf s 0 = some rec1 → Allowed s .ad (msg 32) true 0 rec1) ∧
    (let s := posting ((funded 1).setChan 0 { Chan.initial with bar := true })
     recordOf s 0 = some rec1 ∧ (s.chan 0).bar = true) ∧
    (let s := posting active
     (s.chan 0).bar = false ∧ effectiveHold s 0 = true) ∧
    (let s := posting ((funded 1).setLink .pd { base.link .pd with state := .stalled })
     effectiveHold s 0 = false ∧ (s.link rec1.peer).state ≠ .up) ∧
    (let s := posting brim
     effectiveHold s 0 = false ∧ (s.link rec1.peer).state = .up ∧ 4 ≤ (s.chan 0).fwd.length) ∧
    (let s := posting (funded 1)
     (s.chan 0).outstanding < rec1.maxOutstanding ∧ (s.chan 0).fwd.length < 4 ∧ rec1.creditBase ≠ 0 ∧
       (s.chan 0).credit < 1 + ((msg 32).payload.length + 31) / 32) ∧
    (let s := posting (funded 2)
     recordOf s 0 = some rec1 ∧ (s.chan 0).bar = false ∧ effectiveHold s 0 = false ∧ (s.link rec1.peer).state = .up ∧
       (s.chan 0).outstanding < rec1.maxOutstanding ∧ (s.chan 0).fwd.length < 4 ∧
       1 + ((msg 32).payload.length + 31) / 32 ≤ (s.chan 0).credit) := by
  refine ⟨fun s h => arrives_arriving _ _ _ s h, ⟨arrives_arriving _ _ _ _ (by decide), by decide +kernel⟩,
    by decide +kernel, ?_, fun s h => allowed_msg s true h, by decide +kernel, by decide +kernel, by decide +kernel,
    by decide +kernel, by decide +kernel, by decide +kernel⟩
  intro c r h
  have : ∀ c : Chn, recordOf (posting State.reset) c = none := by decide +kernel
  have hr := h.record
  rw [this c] at hr
  cases hr

/-! ## Replies, extension, cancellation -/

/-- PD's frame of body `body` about to be complete. The xid of the exchange of `forwarded` is 1 × 32 + 0. -/
def answering (ty : FrameType) (body : List Byte) (s : State) : State := arriving .pd ty body s
theorem names_entry1 (s : State) (h : s.entry 0 = entry1) : Names s .pd 1#8 0x20#8 0 :=
  ⟨by decide, by rw [h]; decide, by rw [h]; decide, by rw [h]; decide, by rw [h]; decide⟩
theorem names_none (s : State) (chan : Byte) (h : (s.entry 0).st = .free) : ∀ e, ¬ Names s .pd chan 0x20#8 e := by
  intro e n
  have he : e = 0 := by
    have := n.index
    have h2 : (0x20#8 : Byte).toNat = 32 := by decide
    rw [h2] at this
    ext; change e.val = 0; omega
  subst he
  exact n.live h

/-- The forward of the exchange is still in transmission, with `n` of its 11 bytes clocked. -/
def inFlight (n : Nat) (s : State) : State :=
  sending .pd { ty := 0x82#8, body := [1#8, 0x20#8, 1#8, 1#8, 9#8], sent := n, source := .forward 0 none } s

/-- A reply of 64 bytes, the MaxSize of channel 1; with the forward ended and still in transmission; to a waiting retry; and the
bodies and states that are refused. -/
theorem witness_ReplyHandled :
    let body : List Byte := [1#8, 0x20#8, 0#8, 5#8] ++ List.replicate 64 1#8
    let m : ReplyBody := { chan := 1#8, xid := 0x20#8, result := 5#8, payload := List.replicate 64 1#8 }
    let s := answering .reply body forwarded
    (Arrives s .pd 0#8 .reply 1 body ∧ readReply body = some m ∧ Names s .pd m.chan m.xid 0 ∧ Awaits s 0 ∧
      m.payload.length ≤ (match recordOf s (s.entry 0).chan with | some r => r.maxSize | none => 1024) ∧
      forwardInFlight s 0 = false ∧ forwardInFlight (inFlight 0 s) 0 = true ∧ (1 : EntryIx) ≠ 0 ∧ (1 : Chn) ≠ 0) ∧
    (readReply [1#8, 0x20#8, 0#8] = none) ∧
    (∀ e, ¬ Names (answering .reply body base) .pd m.chan m.xid e) ∧
    (Names (answering .reply body queued) .pd m.chan m.xid 0 ∧ ¬ Awaits (answering .reply body queued) 0) ∧
    Awaits (answering .reply body retrying) 0 ∧
    (let longer := body ++ [1#8]
     readReply longer = some { m with payload := List.replicate 65 1#8 } ∧
      (match recordOf s (s.entry 0).chan with | some r => r.maxSize | none => 1024) < (List.replicate 65 1#8).length) := by
  refine ⟨⟨arrives_arriving _ _ _ _ (by decide), by decide +kernel, names_entry1 _ (by decide +kernel), .inl (by decide +kernel),
    by decide +kernel, by decide +kernel, by decide +kernel, by decide, by decide⟩, by decide, names_none _ _ (by decide +kernel),
    ⟨⟨by decide, by decide +kernel, by decide +kernel, by decide +kernel, by decide +kernel⟩, ?_⟩, .inr ⟨by decide +kernel, by decide +kernel⟩, by decide +kernel, by decide +kernel⟩
  rintro (h | ⟨-, h⟩) <;> exact absurd h (by decide +kernel)

theorem witness_ExtendHandled :
    let s := answering .extend [1#8, 0x20#8] forwarded
    (Arrives s .pd 0#8 .extend 1 [1#8, 0x20#8] ∧ Names s .pd 1#8 0x20#8 0 ∧ (s.entry 0).st = .forwarded ∧
      (s.entry 0).extCount < (s.entry 0).snap.maxExtends ∧ (s.entry 0).deadline = some 1000#32) ∧
    Arrives (answering .extend [1#8] forwarded) .pd 0#8 .extend 1 [1#8] ∧
    (∀ e, ¬ Names (answering .extend [1#8, 0x20#8] base) .pd 1#8 0x20#8 e) ∧
    ¬ Awaits (answering .extend [1#8, 0x20#8] queued) 0 ∧
    (let r := answering .extend [1#8, 0x20#8] retrying
     (r.entry 0).st = .queued ∧ (r.entry 0).fwdOnce = true) ∧
    (let r := answering .extend [1#8, 0x20#8] (forwarded.setEntry 0 { entry1 with extCount := 2 })
     (r.entry 0).st = .forwarded ∧ (r.entry 0).snap.maxExtends ≤ (r.entry 0).extCount) := by
  refine ⟨⟨arrives_arriving _ _ _ _ (by decide), names_entry1 _ (by decide +kernel), by decide +kernel, by decide +kernel,
    by decide +kernel⟩, arrives_arriving _ _ _ _ (by decide), names_none _ _ (by decide +kernel), ?_, by decide +kernel,
    by decide +kernel⟩
  rintro (h | ⟨-, h⟩) <;> exact absurd h (by decide +kernel)

theorem witness_CancelHandled :
    let s := arriving .ad .cancel [7#8] forwarded
    (Arrives s .ad 0#8 .cancel 1 [7#8] ∧ entryOfTag s .ad 7#8 = some 0 ∧ (s.entry 0).st = .forwarded ∧
      ((s.entry 0).fwdOnce = true ∧ (s.link (s.entry 0).responder).state = .up) ∧ forwardInFlight s 0 = false ∧
      forwardInFlight (inFlight 0 s) 0 = true) ∧
    (let r := arriving .ad .cancel [7#8] queued
     entryOfTag r .ad 7#8 = some 0 ∧ (r.entry 0).st = .queued ∧
      ¬ ((r.entry 0).fwdOnce = true ∧ (r.link (r.entry 0).responder).state = .up)) ∧
    Arrives (arriving .ad .cancel [] forwarded) .ad 0#8 .cancel 1 [] ∧
    entryOfTag (arriving .ad .cancel [8#8] forwarded) .ad 8#8 = none ∧
    (let r := arriving .ad .cancel [7#8] replying
     entryOfTag r .ad 7#8 = some 0 ∧ (r.entry 0).st = .replying) ∧ Port.pd ≠ .ad :=
  ⟨⟨arrives_arriving _ _ _ _ (by decide), by decide +kernel, by decide +kernel, by decide +kernel, by decide +kernel,
    by decide +kernel⟩, by decide +kernel, arrives_arriving _ _ _ _ (by decide), by decide +kernel, by decide +kernel, by decide⟩

/-! ## Draw frames -/

/-- The body of a DRAW_WINDOW, all high bytes 0 but that of x1. -/
def windowBody (x0 x1lo x1hi y0 y1 order : Byte) : List Byte := [x0, 0#8, x1lo, x1hi, y0, 0#8, y1, 0#8, order]
theorem witness_DrawFramesQueued :
    (∀ p : Port, ∀ ty body, Arrives (arriving p ty body base) p 0#8 ty 1 body) ∧
    screenOf .ad = some .ad ∧ screenOf .pd = some .pd ∧ readWindow [1#8] = none ∧
    readWindow (windowBody 5#8 0x40#8 1#8 3#8 3#8 0#8) = some ⟨⟨5, 319, 3, 3⟩, .row⟩ ∧
    (readWindow (windowBody 5#8 4#8 0#8 3#8 3#8 0#8) = some ⟨⟨5, 4, 3, 3⟩, .row⟩ ∧ 4 < 5) ∧
    4 ≤ (brim.draw .ad).queue.length ∧ (base.draw .ad).queue.length < 4 ∧
    ([] : List Byte).length = 0 ∧ [1#8].length % 2 = 1 ∧ 1024 < (List.replicate 1026 1#8).length ∧
    (0 < (List.replicate 1024 1#8).length ∧ (List.replicate 1024 1#8).length % 2 = 0 ∧ (List.replicate 1024 1#8).length ≤ 1024) := by
  refine ⟨fun p ty body => arrives_arriving p ty body base (by cases p <;> decide), by decide, by decide, by decide, by decide +kernel,
    by decide +kernel, by decide, by decide, by decide, by decide, by rw [List.length_replicate]; decide, by rw [List.length_replicate]; decide⟩

/-! ## Control requests -/

/-- Every CONTROL is witnessed by `asking` on a state with its link UP. -/
theorem asks_base (p : Port) (code : Byte) (args : List Byte) : Asks (asking p code args base) p 0#8 1 code 0x55#8 args :=
  asks_asking p code args base (by cases p <;> decide)

theorem witness_ControlChecks :
    Arrives (arriving .rd .control [1#8] base) .rd 0#8 .control 1 [1#8] ∧
    (∀ code args p, Asks (asking p code args base) p 0#8 1 code 0x55#8 args) ∧ ctlOf 0x00#8 = none ∧
    (ctlOf 0x32#8 = some .touchRestart ∧ Ctl.touchRestart.pdOnly = true ∧ Port.ad ≠ .pd) ∧
    (ctlOf 0x10#8 = some .hold ∧ Ctl.hold.pdOnly = false ∧ ([] : List Byte).length ≠ Ctl.hold.argBytes ∧
      [1#8].length = Ctl.hold.argBytes) :=
  ⟨arrives_arriving _ _ _ _ (by decide), fun _ _ _ => asks_base _ _ _, by decide, by decide, by decide⟩

theorem witness_QueriesAnswered :
    (∀ code args p, Asks (asking p code args base) p 0#8 1 code 0x55#8 args) ∧
    (portOf (byteAt [3#8] 0) = none ∨ portOf (byteAt [0#8] 0) = none) ∧ (∃ b, portOf (byteAt [b] 0) = some .rd) ∧ Port.pd ≠ .ad ∧
    (∀ b ∈ [0#8, 49#8], ∀ c : Chn, (byteAt [b, 0#8] 0).toNat ≠ c.val + 1) ∧
    ((byteAt [1#8, 0#8] 0).toNat = (0 : Chn).val + 1 ∧ (byteAt [48#8, 0#8] 0).toNat = (47 : Chn).val + 1) ∧
    (∃ b, areaOf (byteAt [1#8, b] 1) = some .b) ∧ 3 ≤ (byteAt [1#8, 3#8] 1).toNat ∧
    (recordOf base 0 = some rec1 ∧ rec1.owner = .ad ∧ rec1.owner ≠ .rd ∧ rec1.peer ≠ .rd) ∧
    (base.session.state = .idle ∧ base.session.record = none) ∧
    (active.session.record = some sess1 ∧ active.session.state = .active ∧ active.session.limitAt = some 1000#32) ∧
    (closing.session.state = .closing ∧
      ∃ r f, closing.session.record = some r ∧ r.fill = some f ∧ f = ⟨32, 31⟩) ∧
    opening.session.state = .opening :=
  ⟨fun _ _ _ => asks_base _ _ _, by decide, ⟨3#8, by decide⟩, by decide, by decide, by decide, ⟨2#8, by decide⟩, by decide, by decide +kernel,
    by decide, by decide, ⟨by decide, _, _, rfl, rfl, rfl⟩, by decide⟩

theorem witness_QueryNoticesTakesSet :
    (∀ s : State, (s.link .pd).state = .up → Asks (asking .pd 0x04#8 [] s) .pd 0#8 1 0x04#8 0x55#8 []) ∧
    (noticing.notice .pd).st = .waiting ∧ (noticing.notice .ad).st = .sending ∧ (noticing.notice .rd).st ≠ .waiting :=
  ⟨fun s h => asks_asking _ _ _ s h, by decide, by decide, by decide⟩

/-- The condition of place 8 is pending and not selected; the mask 0xFFFF is stored as 0x01FF. -/
theorem witness_SetNoticeMaskReplaces :
    let s := base.setNotice .ad { mask := 0x0001#16, set := 0x0101#16, st := .none, again := false }
    Asks (asking .ad 0x05#8 [0xFF#8, 0xFF#8] s) .ad 0#8 1 0x05#8 0x55#8 [0xFF#8, 0xFF#8] ∧
    ((s.notice .ad).st = .none ∧
      ((0xFF#8 ++ 0xFF#8 : Half) &&& 0x01FF#16) &&& ~~~ (s.notice .ad).mask &&& (s.notice .ad).set ≠ 0#16) ∧
    ((0x00#8 ++ 0xFF#8 : Half) &&& 0x01FF#16) &&& ~~~ (s.notice .ad).mask &&& (s.notice .ad).set = 0#16 ∧
    (noticing.notice .pd).st ≠ .none :=
  ⟨asks_asking _ _ _ _ (by decide), by decide, by decide, by decide⟩

/-- RELEASED for PD: pending already, not selected, and newly pending in each state of the NOTICE. -/
theorem witness_SetNoticeMaskReplaces_latch :
    let n (mask set : Half) (st : NoticeState) : Notice := { mask := mask, set := set, st := st, again := false }
    let bit := Condition.released.bit
    (n 0x0021#16 0x0020#16 .none).set &&& bit ≠ 0#16 ∧
    ((n 0x0001#16 0x0001#16 .none).set &&& bit = 0#16 ∧ (n 0x0001#16 0x0001#16 .none).mask &&& bit = 0#16) ∧
    (∀ st ∈ [NoticeState.none, .waiting, .sending],
      let s := base.setNotice .pd (n 0x0021#16 0x0001#16 st)
      (s.notice .pd).set &&& bit = 0#16 ∧ (s.notice .pd).mask &&& bit ≠ 0#16 ∧ (s.notice .pd).st = st) := by decide

theorem witness_HoldAndRelease :
    (∀ s : State, (s.link .pd).state = .up → ∀ code a, Asks (asking .pd code [a] s) .pd 0#8 1 code 0x55#8 [a]) ∧
    (∀ a ∈ [0#8, 49#8, 255#8], ∀ c : Chn, a.toNat ≠ c.val + 1) ∧
    ((48#8 : Byte).toNat = (47 : Chn).val + 1 ∧ recordOf base 47 = none) ∧
    ((1#8 : Byte).toNat = (0 : Chn).val + 1 ∧ recordOf base 0 = some rec1 ∧ Port.pd = rec1.peer ∧ Port.rd ≠ rec1.peer ∧ Port.rd ≠ .pd) ∧
    (rec1.quietInSession = true ∧ active.session.state ≠ .idle) ∧
    (¬ (rec1.quietInSession = true ∧ base.session.state ≠ .idle) ∧ (base.chan 0).ownHold = false ∧
      ((setOwnHold 0 true base).chan 0).ownHold = true) :=
  ⟨fun s h _ _ => asks_asking _ _ _ s h, by decide, by decide +kernel, by decide +kernel, by decide, by decide, by decide +kernel,
    by decide +kernel⟩

theorem witness_BarRequests :
    (∀ s : State, (s.link .pd).state = .up → ∀ code a, Asks (asking .pd code [a] s) .pd 0#8 1 code 0x55#8 [a]) ∧
    (∀ c : Chn, (0#8 : Byte).toNat = c.val + 1 → recordOf base c = none) ∧
    (∀ c : Chn, (48#8 : Byte).toNat = c.val + 1 → recordOf base c = none) ∧
    ((1#8 : Byte).toNat = (0 : Chn).val + 1 ∧ recordOf retrying 0 = some rec1 ∧ (retrying.chan 0).bar = false ∧
      ExchangesOk (asking .pd 0x12#8 [1#8] retrying) ∧ 0 ∈ (retrying.chan 0).retries ++ requestsOf (retrying.chan 0).fwd ∧
      (retrying.entry 0).withdraw = false) ∧
    (((base.setChan 0 { Chan.initial with bar := true }).chan 0).bar = true) ∧
    FwdItem.post postItem ∈ (posted.chan 1).fwd :=
  ⟨fun s h _ _ => asks_asking _ _ _ s h, by decide +kernel, by decide +kernel,
    ⟨by decide, by decide +kernel, by decide +kernel, exchangesOk_at exchangesOk_retrying rfl rfl rfl, by decide +kernel,
      by decide +kernel⟩, by decide +kernel, by decide +kernel⟩

/-- The 22 arguments of a WRITE_CHANNEL: channel 48 of area B, owner AD, peer RD, all values out of range. -/
def writeArgs : List Byte :=
  [2#8, 48#8, 1#8, 3#8, 1#8, 2#8, 0xFF#8, 0xFF#8, 0xFF#8, 0xFF#8, 0xFF#8, 0xFF#8, 0#8, 9#8, 0#8, 0#8, 0#8, 0#8, 0#8, 200#8, 9#8, 5#8]
theorem witness_PolicyWrites :
    (∀ code args, Asks (asking .pd code args base) .pd 0#8 1 code 0x55#8 args) ∧
    (areaOf (byteAt [0#8] 0) = none ∨ areaOf (byteAt [3#8] 0) = none) ∧ (∃ b, areaOf (byteAt [b] 0) = some base.policy.active) ∧
    (areaOf (byteAt writeArgs 0) = some .b ∧ AreaId.b ≠ base.policy.active ∧ writeArgs.length = 22) ∧
    ((byteAt writeArgs 1).toNat = (47 : Chn).val + 1 ∧ (readRecord writeArgs).isSome = true) ∧
    (∀ c : Chn, (byteAt [2#8, 49#8] 1).toNat ≠ c.val + 1) ∧ readRecord (List.replicate 22 2#8) = none ∧
    (let a := [2#8, 9#8, 0#8, 0#8, 0#8, 0#8, 0#8, 33#8]
     modeOf (byteAt a 1) = none ∧ a.length = 8) ∧
    (let a := [2#8, 0#8, 0#8, 1#8, 0#8, 0#8, 0#8, 33#8]
     modeOf (byteAt a 1) = some .fixed ∧ modeOf (byteAt a 3) = some .rotating ∧ modeOf (byteAt a 5) = some .fixed) :=
  ⟨fun _ _ => asks_base _ _ _, by decide, ⟨1#8, by decide⟩, by decide, by decide, by decide, by decide, by decide,
    by decide⟩

theorem witness_ActivateHandled :
    (∀ s : State, (s.link .pd).state = .up → ∀ a, Asks (asking .pd 0x24#8 [a] s) .pd 0#8 1 0x24#8 0x55#8 [a]) ∧
    areaOf 0#8 = none ∧ areaOf 3#8 = none ∧ areaOf 1#8 = some base.policy.active ∧
    (areaOf 2#8 = some .b ∧ AreaId.b ≠ base.policy.active ∧ base.session.state = .idle) ∧
    (AreaId.b ≠ active.policy.active ∧ active.session.state ≠ .idle ∧ active.policy.pendingSwitch = none) ∧
    (AreaId.b ≠ closing.policy.active ∧ closing.session.state ≠ .idle ∧ closing.policy.pendingSwitch ≠ none) :=
  ⟨fun s h _ => asks_asking _ _ _ s h, by decide, by decide, by decide, by decide, by decide, by decide⟩

/-- Area B: number 1 kept with another refill period, number 2 with owner and peer exchanged, number 3 new, number 4 of area A gone. -/
def switching : State :=
  let other (r : ChannelRecord) : ChannelRecord := { r with owner := r.peer, peer := r.owner }
  { retrying with
    policy :=
      { retrying.policy with
        areaA := { area with recs := area.recs.set 3 (some { rec2 with creditBase := 4 }) }
        areaB :=
          { area with
            recs := ((area.recs.set 0 (some { rec1 with refillPeriod := 9 })).set 1 (some (other rec2))).set 2 (some rec2) } } }
theorem witness_SwitchTaken :
    ExchangesOk switching ∧ ExchangesOk forwarded ∧ (forwarded.entry 0).st = .forwarded ∧
    (0 ∈ (switching.chan 0).retries ∧ requestAllowed switching ((areaOfId switching .b).recs.get 0) 0 = true) ∧
    (0 ∈ (switching.chan 0).retries ∧ requestAllowed switching ((areaOfId retrying .b).recs.get 0) 0 = false) ∧
    ((activeArea switching).recs.get 0 = some rec1 ∧
      (areaOfId switching .b).recs.get 0 = some { rec1 with refillPeriod := 9 } ∧ rec1.creditBase ≠ 0) ∧
    ((activeArea switching).recs.get 1 = some rec2 ∧
      (areaOfId switching .b).recs.get 1 = some { rec2 with owner := .ad, peer := .pd } ∧ rec2.owner ≠ .ad) ∧
    ((activeArea switching).recs.get 2 = none ∧ (areaOfId switching .b).recs.get 2 = some rec2) ∧
    ((activeArea switching).recs.get 3 = some { rec2 with creditBase := 4 } ∧ (areaOfId switching .b).recs.get 3 = none) ∧
    ((activeArea switching).recs.get 4 = none ∧ (areaOfId switching .b).recs.get 4 = none) ∧
    ((switching.entry 0).fwdOnce = true ∧ (switching.link (switching.entry 0).responder).state = .up) ∧
    (ExchangesOk posted ∧ FwdItem.post postItem ∈ (posted.chan 1).fwd ∧
      recordAllows ((areaOfId posted .b).recs.get 1) true postItem.sender postItem.peer postItem.kind postItem.payload.length = false) :=
  ⟨exchangesOk_at exchangesOk_retrying rfl rfl rfl, exchangesOk_forwarded, by decide +kernel, by decide +kernel, by decide +kernel,
    by decide +kernel, by decide +kernel, by decide +kernel, by decide +kernel, by decide +kernel, by decide +kernel,
    exchangesOk_posted, by decide +kernel, by decide +kernel⟩

theorem witness_FullClearHandled :
    (∀ s : State, (s.link .pd).state = .up → Asks (asking .pd 0x25#8 [] s) .pd 0#8 1 0x25#8 0x55#8 []) ∧
    active.session.state ≠ .idle ∧
    (forwarded.session.state = .idle ∧ ExchangesOk (asking .pd 0x25#8 [] forwarded) ∧ (forwarded.entry 0).st = .forwarded ∧
      (forwarded.entry 1).st = .free) ∧
    (ExchangesOk (asking .pd 0x25#8 [] posted) ∧ FwdItem.post postItem ∈ (posted.chan 1).fwd) ∧
    ((queued.entry 0).st = .queued ∧ (queued.entry 0).fwdOnce = false ∧ (forwarded.entry 0).fwdOnce = true ∧
      (forwarded.link (forwarded.entry 0).responder).state = .up) :=
  ⟨fun s h => asks_asking _ _ _ s h, by decide, ⟨by decide, exchangesOk_at exchangesOk_forwarded rfl rfl rfl, by decide +kernel,
    by decide +kernel⟩, ⟨exchangesOk_at exchangesOk_posted rfl rfl rfl, by decide +kernel⟩, by decide +kernel⟩

/-! ## The session -/

/-- The 14 arguments of an OPEN_SESSION: columns 319 to `x1`, row 239, captured, limit 0, colour given. -/
def openArgs (x1 : Byte) : List Byte :=
  [0x3F#8, 1#8, x1, 1#8, 0xEF#8, 0#8, 0xFF#8, 0#8, 1#8, 0#8, 0#8, 1#8, 7#8, 0#8]
theorem not_adRun (s : State) (h : s.run = none) : ¬ AdRun s := by
  rintro ⟨r, hr, -⟩
  rw [h] at hr
  cases hr
theorem witness_OpenSessionHandled :
    (∀ s : State, (s.link .pd).state = .up → ∀ a, Asks (asking .pd 0x30#8 a s) .pd 0#8 1 0x30#8 0x55#8 a) ∧
    (openArgs 0x40#8).length = 14 ∧ active.session.state ≠ .idle ∧ base.session.state = .idle ∧
    (openRecord (openArgs 0x3E#8)).rect.x1 < (openRecord (openArgs 0x3E#8)).rect.x0 ∧
    ((openRecord (openArgs 0x40#8)).rect.x0 ≤ (openRecord (openArgs 0x40#8)).rect.x1 ∧
      (openRecord (openArgs 0x40#8)).rect.y0 ≤ (openRecord (openArgs 0x40#8)).rect.y1) ∧
    ¬ AdRun (asking .pd 0x30#8 (openArgs 0x40#8) base) ∧
    (let s := base.setRun (some { source := .frame .ad, x := 0, y := 5, dir := .row, pixels := [1#16], last := some 1 })
     AdRun (asking .pd 0x30#8 (openArgs 0x40#8) s) ∧ s.session.state = .idle) :=
  ⟨fun s h _ => asks_asking _ _ _ s h, by decide, by decide, by decide, by decide, by decide, not_adRun _ rfl, ⟨_, rfl, rfl⟩, rfl⟩

theorem witness_CloseSessionHandled :
    (∀ s : State, (s.link .pd).state = .up → ∀ a b c d, Asks (asking .pd 0x31#8 [a, b, c, d] s) .pd 0#8 1 0x31#8 0x55#8 [a, b, c, d]) ∧
    base.session.state = .idle ∧ closing.session.state = .closing ∧ opening.session.state = .opening ∧
    opening.session.record = some { sess1 with start := none } ∧ ({ sess1 with start := none } : SessRecord).closeReq = none ∧
    (let s := opening.setSession { opening.session with record := some { sess1 with start := none, closeReq := some .plain } }
     s.session.state = .opening ∧ ∃ r, s.session.record = some r ∧ r.closeReq ≠ none) ∧
    (active.session.record = some sess1 ∧ active.session.state = .active ∧ closeAsked active 1#8 0#8 0#8 0#8 = .blank 7#16 ∧
      closeAsked active 0#8 1#8 1#8 0#8 = .plain) ∧
    (recordOf active 0 = some rec1 ∧ rec1.quietInSession = true ∧ (active.chan 0).ownHold = false) :=
  ⟨fun s h _ _ _ _ => asks_asking _ _ _ s h, by decide, by decide, by decide, by decide, by decide, ⟨rfl, _, rfl, by decide⟩, by decide,
    by decide +kernel, by decide, by decide +kernel⟩

/-! ## Ends of transmissions, timers, the panel link and the touch link -/

/-- A frame from `src`, all of whose bytes have been clocked. -/
def txFrom (src : TxSource) : Tx := { ty := 0x82#8, body := [], sent := 6, source := src }
/-- A WITHDRAW of an exchange whose reply has left is in transmission. -/
def withdrawing : State := base.setEntry 0 { entry1 with st := .replying, tag := none, deadline := none, req := none, withdraw := true }
theorem witness_TransmissionCompletes :
    (∀ src, ((sending .ad (txFrom src) base).arb .ad).tx = some (txFrom src) ∧ (txFrom src).source = src ∧
      (txFrom src).body.length + 6 ≤ (txFrom src).sent) ∧ Port.ad ≠ .rd ∧
    settle (sending .ad (txFrom .notice) base) = sending .ad (txFrom .notice) base ∧
    (((sending .ad (touchTx 15) base).arb .ad).tx = some (touchTx 15) ∧ (touchTx 15).sent < (touchTx 15).body.length + 6) ∧
    (base.radio.cts = true ∨ base.radio.lastStarted = true) ∧
    ({ base with radio := ⟨false, true, false⟩ }.radio.lastStarted = true) ∧ screenOf .pd = some .pd ∧
    ((withdrawing.entry 0).st = .replying ∧ (withdrawing.entry 0).tag = none) ∧ (replying.entry 0).tag.isSome = true ∧
    ((replying.entry 0).st = .replying ∧ (replying.entry 0).withdraw = false) ∧
    ((let s := replying.setEntry 0 { replying.entry 0 with withdraw := true }
      (s.entry 0).st = .replying ∧ (s.entry 0).withdraw = true)) ∧
    ((noticing.notice .ad).again = true ∧ (noticing.notice .ad).set &&& (noticing.notice .ad).mask ≠ 0#16) ∧
    (noticing.notice .pd).again = false ∧
    ((forwarded.entry 0).snap.retries ≠ 0 ∧
      (let s := forwarded.setEntry 0 { entry1 with snap := { entry1.snap with retries := 0 } }
       (s.entry 0).snap.retries = 0 ∧ (s.entry 0).req = some { payload := [9#8], blocks := 1 })) :=
  ⟨fun _ => ⟨rfl, rfl, Nat.le_refl 6⟩, by decide, by decide +kernel, by decide, by decide, by decide, by decide, by decide +kernel, by decide +kernel, by decide +kernel,
    by decide +kernel, by decide, by decide, by decide +kernel⟩

/-- Channel 1 forwarded at 980 with a gap of 20; number 3 forwarded 255 ms ago; a refill now. -/
theorem witness_ChannelTimers :
    (recordOf forwarded 0 = some rec1 ∧ (forwarded.chan 0).lastForward = some 980#32 ∧
      forwarded.time = 980#32 + BitVec.ofNat 32 rec1.gap) ∧
    (let s := base.setChan 2 { Chan.initial with lastForward := some 745#32 }
     (s.chan 2).lastForward = some 745#32 ∧ s.time = 745#32 + 255#32) ∧
    (let s := base.setChan 0 { Chan.initial with refillAt := some 1000#32 }
     recordOf s 0 = some rec1 ∧ (s.chan 0).refillAt = some s.time) := by decide +kernel

/-- The deadline of the last attempt. -/
def lastAttempt (bar : Bool) : State :=
  forwarded.setEntry 0 { entry1 with attempt := 2, snap := { entry1.snap with barOnTimeout := bar } }
theorem exchangesOk_lastAttempt : ExchangesOk (lastAttempt true) :=
  exchangesOk_of (by decide +kernel) (by decide +kernel) (by decide +kernel) (by decide +kernel)
/-- The policy no longer allows the kind of the request. -/
def forbidden : State :=
  { forwarded with policy := { forwarded.policy with
    areaA := { area with recs := area.recs.set 0 (some { rec1 with kinds := 1#16 }) } } }
theorem witness_DeadlineReached :
    (∀ s ∈ [lastAttempt false, lastAttempt true, forbidden, forwarded], (s.entry 0).st = .forwarded ∧ (s.entry 0).fwdOnce = true ∧
      (s.entry 0).deadline = some s.time ∧ (s.link (s.entry 0).responder).state = .up) ∧
    (∀ b ∈ [false, true], ((lastAttempt b).entry 0).snap.retries < ((lastAttempt b).entry 0).attempt ∧
      ((lastAttempt b).entry 0).snap.barOnTimeout = b) ∧
    ((((lastAttempt true).setChan 0 { (lastAttempt true).chan 0 with bar := true }).chan 0).bar = true) ∧
    (servedBy (lastAttempt true) 0 .ad .pd = true ∧ ExchangesOk (lastAttempt true) ∧ ((lastAttempt true).chan 0).bar = false) ∧
    ((forbidden.entry 0).attempt ≤ (forbidden.entry 0).snap.retries ∧ ¬ StillAllowed forbidden 0) ∧
    ((forwarded.entry 0).attempt ≤ (forwarded.entry 0).snap.retries ∧ StillAllowed forwarded 0 ∧
      (forwarded.chan 0).bar = false) ∧
    (let s := forwarded.setChan 0 { forwarded.chan 0 with bar := true }
     StillAllowed s 0 ∧ (s.chan 0).bar = true) := by
  refine ⟨by decide +kernel, by decide +kernel, by decide +kernel,
    ⟨by decide +kernel, exchangesOk_lastAttempt, by decide +kernel⟩, ⟨by decide +kernel, ?_⟩,
    ⟨by decide +kernel, ⟨rec1, by decide +kernel, by decide, by decide, by decide, by decide, by decide +kernel⟩, by decide +kernel⟩,
    ⟨rec1, by decide +kernel, by decide, by decide, by decide, by decide, by decide +kernel⟩, by decide +kernel⟩
  rintro ⟨r, hr, -, -, -, h, -⟩
  have : recordOf forbidden 0 = some { rec1 with kinds := 1#16 } := by decide +kernel
  have hc : (forbidden.entry 0).chan = 0 := by decide +kernel
  rw [hc, this] at hr
  cases hr
  exact absurd h (by decide +kernel)

/-- PD does not take the forward of the exchange: its stall timer expires. -/
def stalling : State := (inFlight 10 forwarded).setLink .pd { base.link .pd with stall := some 1000#32, ready := true }
theorem exchangesOk_stalling : ExchangesOk stalling :=
  exchangesOk_of (by decide +kernel) (by decide +kernel) (by decide +kernel) (by decide +kernel)
theorem portsDiffer_stalling : PortsDiffer stalling := by unfold PortsDiffer; decide +kernel
theorem witness_StallTearsDown :
    (stalling.link .pd).stall = some stalling.time ∧ (∃ t, (stalling.arb .pd).tx = some t ∧ t.source = .forward 0 none) ∧
    ExchangesOk stalling ∧ PortsDiffer stalling ∧ (stalling.entry 0).responder = .pd ∧ (stalling.entry 0).st = .forwarded ∧
    screenOf .pd = some .pd ∧
    (let f := whole .hello (.charged 1) []
     let s := arrivingFrame .pd f (stalling.setSession active.session)
     rxOf s .pd = .crc2 f 0#8 1000#32 ∧ Completes s .pd 0#8 f ∧ s.session.state = .active ∧ s.session.record = some sess1 ∧
       ExchangesOk s ∧ PortsDiffer s) :=
  ⟨by decide, ⟨_, rfl, rfl⟩, exchangesOk_stalling, portsDiffer_stalling, by decide +kernel, by decide +kernel, rfl,
    rfl, completes_arriving _ _ _ rfl, rfl, rfl, exchangesOk_at exchangesOk_stalling rfl rfl rfl, portsDiffer_stalling⟩

/-- AD, the requester of the exchange, with a run of its head frame in progress and a contact, does not take a TOUCH in time. -/
def stallingAd : State :=
  (sending .ad (touchTx 0) (panelBusy forwarded)).setLink .ad { base.link .ad with stall := some 1000#32, ready := true }
theorem witness_StallTearsDown_requester :
    (stallingAd.link .ad).stall = some stallingAd.time ∧ (stallingAd.arb .ad).tx = some (touchTx 0) ∧ ExchangesOk stallingAd ∧
    PortsDiffer stallingAd ∧ toldOfDrop stallingAd .ad 0 = true ∧
    contactAt stallingAd 1 = some { owner := some .ad, px := 1, py := 2 } ∧
    ∃ r f q, stallingAd.run = some r ∧ r.source = .frame .ad ∧ r.last = none ∧ (stallingAd.draw .ad).queue = f :: q :=
  ⟨by decide, by decide, exchangesOk_of (by decide +kernel) (by decide +kernel) (by decide +kernel) (by decide +kernel),
    portsDiffer_of (by decide +kernel), by decide, by decide, _, _, _, rfl, rfl, rfl, rfl⟩

theorem witness_SessionLimitExpires : active.session.state = .active ∧ active.session.limitAt = some active.time ∧
    active.session.record = some sess1 := by decide

/-- The session OPENING with a close without blank stored. -/
def closingPlain : State :=
  opening.setSession { opening.session with record := some { sess1 with start := none, closeReq := some .plain } }
theorem witness_RunCompletes :
    (∃ r, opening.run = some r ∧ r.source = .frame .ad ∧ r.last = some 1) ∧ opening.session.state = .opening ∧
    (∃ q, opening.session.record = some q ∧ q.closeReq = none) ∧
    (let s := opening.setSession { opening.session with record := some { sess1 with start := none, closeReq := some (.blank 7#16) } }
     ∃ q, s.session.record = some q ∧ q.closeReq = some (.blank 7#16)) ∧
    (∃ q, closingPlain.session.record = some q ∧ q.closeReq = some .plain ∧ closingPlain.session.state = .opening ∧
      closingPlain.policy.pendingSwitch = none ∧ ∃ r, closingPlain.run = some r ∧ r.source = .frame .ad) ∧
    (∃ r, below.run = some r ∧ r.source = .frame .ad ∧ r.last = none ∧ below.session.state ≠ .opening) ∧
    (∃ r q, closing.run = some r ∧ r.source = .fill ∧ closing.session.state = .closing ∧ closing.session.record = some q ∧
      q.fill = some ⟨32, 31⟩) ∧
    (recordOf closing 0 = some rec1 ∧ rec1.quietInSession = true ∧ (closing.chan 0).ownHold = false) ∧
    (FillProgress.mk 31 31).next ≤ (FillProgress.mk 31 31).last :=
  ⟨⟨_, rfl, rfl, rfl⟩, rfl, ⟨_, rfl, rfl⟩, ⟨_, rfl, rfl⟩, ⟨_, rfl, rfl, rfl, rfl, _, rfl, rfl⟩, ⟨_, rfl, rfl, rfl, by decide⟩, ⟨_, _, rfl, rfl, rfl, rfl, rfl⟩,
    by decide +kernel, by decide⟩

/-- A report: contact count `n`, slot 0 present at raw (x, 4095), slot 1 absent. -/
def report (n xlo xhi : Byte) : List Byte := [n, 1#8, xlo, xhi, 0xFF#8, 0x0F#8, 0#8, 0xFF#8, 0xFF#8, 0xFF#8, 0xFF#8]
/-- The touch link READING after `n` failures, PD's contact in slot 0. -/
def reading (n : Nat) : State :=
  base.setTouch { base.touch with link := .reading, failures := n, slot0 := some { owner := some .pd, px := 319, py := 239 } }
theorem witness_TouchReads :
    (∀ n ∈ [0, 1, 2], (reading n).touch.link = .reading) ∧ (reading 1).touch.failures + 1 < 3 ∧ 3 ≤ (reading 2).touch.failures + 1 ∧
    (report 2#8 0xFF#8 0x0F#8).length = 11 ∧ goodReport (report 2#8 0xFF#8 0x0F#8) = true ∧
    goodReport (report 3#8 0#8 0#8) = false ∧ goodReport (report 1#8 0#8 0x10#8) = false ∧
    (contactAt (reading 2) 0 = some { owner := some .pd, px := 319, py := 239 } ∧ ((reading 2).touchQueue .pd).length + 2 ≤ 8) ∧
    Asks (asking .pd 0x32#8 [] brim) .pd 0#8 1 0x32#8 0x55#8 [] ∧ brim.touch.link = .fault ∧ base.touch.link ≠ .fault :=
  ⟨by decide, by decide, by decide, by decide, by decide, by decide, by decide, by decide, asks_asking _ _ _ _ (by decide), by decide,
    by decide⟩

/-- A MOVE of slot `i`. -/
def move (i : Fin 2) : TouchEvent := { kind := .move, slot := i, px := 3, py := 4, time := 9#32 }
/-- PD's touch queue full with one MOVE, of slot `i`, behind the DOWN of its contact in slot 0. -/
def crowded (i : Fin 2) : State :=
  (reading 0).setTouchQueue .pd ([down0, move i] ++ List.replicate 6 { down0 with slot := 1 })
theorem witness_TouchEventsDerived :
    contactAt base 0 = none ∧ ownerNow base = some .ad ∧ (base.touchQueue .ad).length < 8 ∧ (Screen.ad ≠ .pd) ∧
    contactAt (reading 0) 0 = some { owner := some .pd, px := 319, py := 239 } ∧
    ((319, 239) : Nat × Nat) = (319, 239) ∧ ((318, 239) : Nat × Nat) ≠ (319, 239) ∧
    (let s := (reading 0).setTouchQueue .pd (List.replicate 8 down0)
     contactAt s 0 = some { owner := some .pd, px := 319, py := 239 } ∧ (s.touchQueue .pd).length = 8 ∧
      ∀ ev ∈ s.touchQueue .pd, ev.kind ≠ .move) ∧
    ((crowded 0).touchQueue .pd = [down0] ++ move 0 :: List.replicate 6 { down0 with slot := 1 } ∧ (move 0).slot = 0 ∧
      (move 0).kind = .move ∧ touchSending (crowded 0) .pd = false ∧
      ∀ k ∈ List.replicate 6 { down0 with slot := 1 }, k.slot ≠ 0) ∧
    ((crowded 1).touchQueue .pd = [] ++ down0 :: move 1 :: List.replicate 6 { down0 with slot := 1 } ∧ down0.slot = 0 ∧
      down0.kind ≠ .move ∧ (∀ k ∈ move 1 :: List.replicate 6 { down0 with slot := 1 }, k.slot ≠ 0) ∧
      8 ≤ ((crowded 1).touchQueue .pd).length) ∧
    (let s := sending .pd (touchTx 0) (crowded 1)
     touchSending s .pd = true ∧ 8 ≤ (s.touchQueue .pd).length) ∧
    (let s := (crowded 1).setSession active.session
     contactAt s 1 = none ∧ ownerNow s = some .pd) ∧
    byteAt (report 1#8 0xFF#8 0x0F#8) 1 ≠ 0#8 := by decide

theorem witness_TickAdvancesTime :
    (∀ p : Port, (base.link p).stall ≠ some base.time ∧ (∀ f hi, rxOf base p ≠ .late f hi) ∧
      ∀ t, lastSeen (rxOf base p) = some t → base.time ≠ t + 21#32) ∧
    (∀ c : Chn, (base.chan c).refillAt ≠ some base.time ∧
      ∀ t, (base.chan c).lastForward = some t →
        base.time ≠ t + 255#32 ∧ ∀ r, recordOf base c = some r → base.time ≠ t + BitVec.ofNat 32 r.gap) ∧
    (∀ e : EntryIx, (base.entry e).deadline ≠ some base.time) ∧ base.session.limitAt ≠ some base.time := by
  have hc : ∀ c : Chn, (base.chan c).refillAt = none ∧ (base.chan c).lastForward = none := by decide +kernel
  refine ⟨?_, ?_, by decide +kernel, by decide⟩
  · intro p
    cases p <;> exact ⟨by decide, (fun f hi h => by cases h), fun t h => by cases h⟩
  · intro c
    refine ⟨by rw [(hc c).1]; decide, ?_⟩
    intro t h
    rw [(hc c).2] at h
    cases h

/-! ## One step of each command, its result worked by hand from the rules -/

/-- The frame granted to `p` by the end of the event has type `ty` and body `body`. -/
def granted (p : Port) (ty : Byte) (body : List Byte) (t : State) : Bool :=
  match (t.arb p).tx with
  | some x => x.ty == ty && x.body == body
  | none => false
/-- The CONTROL_REPLY granted to `p`: code, the tag 0x55, status and result (R164). -/
def replied (p : Port) (code st : Byte) (res : List Byte) (t : State) : Bool :=
  granted p 0x87#8 ([code, 0x55#8, st] ++ res) t
/-- The VERDICT granted to `p` (R164). -/
def refused (p : Port) (body : List Byte) (t : State) : Bool := granted p 0x86#8 body t

/-- R166 and R163: HELLO_REPLY is 0x48 0x0C, version 2, the port, event 0, error count 0. R170 row 4: the HELLO whose last byte falls
together with a stall taken first brings the link up with event 2. -/
theorem test_hello_up : shows (exec (.hello .ad 0#8) (arrivingFrame .ad (whole .hello (.charged 1) []) State.reset))
    (fun t => (t.link .ad).state == .up && granted .ad 0x81#8 [0x48#8, 0x0C#8, 2#8, 1#8, 0#8, 0#8, 0#8] t) = true ∧
    shows (exec (.hello .rd 0#8)
        (base.setLink .rd { base.link .rd with state := .stalled, rx := .late (whole .hello .uncharged []) 0#8 }))
      (fun t => (t.link .rd).state == .up && t.chargedTo .rd == 1 &&
        granted .rd 0x81#8 [0x48#8, 0x0C#8, 2#8, 3#8, 2#8, 0#8, 0#8] t) = true := by decide +kernel
/-- R167, R58: the restart of PD ends the exchange RESTARTED (status 9), and its reply goes to AD with an event 1 for PD. -/
theorem test_hello_restart : shows (exec (.hello .pd 0#8) restarting)
    (fun t => granted .pd 0x81#8 [0x48#8, 0x0C#8, 2#8, 2#8, 1#8, 0#8, 0#8] t &&
      granted .ad 0x84#8 [1#8, 7#8, 0x91#8, 0#8] t && (t.chan 0).ownHold) = true := by decide +kernel
/-- R26, R29, R47: 32 payload bytes cost 2; PD is free, so the request is forwarded at once with xid 1 × 32 and attempt 1. -/
theorem test_request_forwarded : shows (exec (.request .ad 0#8) (requesting (funded 2)))
    (fun t => (t.chan 0).credit == 0 && (t.chan 0).outstanding == 1 && (t.entry 0).deadline == some 1500#32 &&
      granted .pd 0x82#8 ([1#8, 0x20#8, 1#8, 1#8] ++ List.replicate 32 0#8) t) = true := by decide +kernel
/-- R24 step 9, R30: credit 1 is below the cost; the reply says BUDGET (status 6) and no credit is taken. -/
theorem test_request_budget : shows (exec (.request .ad 0#8) (requesting (funded 1)))
    (fun t => (t.chan 0).credit == 1 && (t.chan 0).outstanding == 0 && granted .ad 0x84#8 [1#8, 7#8, 0x61#8, 0#8] t) = true := by
  decide +kernel
/-- R78, R11: the post goes out with its label and kind, and AutoHold sets own HOLD. -/
theorem test_post_forwarded : shows (exec (.post .ad 0#8) (posting (funded 2)))
    (fun t => (t.chan 0).credit == 0 && (t.chan 0).ownHold &&
      granted .pd 0x83#8 ([1#8, 7#8, 1#8, 0#8] ++ List.replicate 32 0#8) t) = true := by decide +kernel
/-- R52, R53: the reply reaches AD with status 0, kind 1 and result 5, and own HOLD is set. -/
theorem test_reply_delivered : shows (exec (.reply .pd 0#8) (answering .reply [1#8, 0x20#8, 0#8, 5#8, 6#8] forwarded))
    (fun t => granted .ad 0x84#8 [1#8, 7#8, 0x01#8, 5#8, 6#8] t && (t.chan 0).ownHold && t.chargedTo .ad == 0) = true := by
  decide +kernel
/-- R50: the generation 2 names no live entry; verdict STALE of a REPLY with channel and xid. -/
theorem test_reply_stale : shows (exec (.reply .pd 0#8) (answering .reply [1#8, 0x40#8, 0#8, 5#8] forwarded))
    (fun t => refused .pd [0x0C#8, 0x04#8, 2#8, 1#8, 0x40#8] t) = true := by decide +kernel
/-- R55: the new time 1000 + 300 is later than the deadline 1000. -/
theorem test_extend : shows (exec (.extend .pd 0#8) (answering .extend [1#8, 0x20#8] forwarded))
    (fun t => (t.entry 0).extCount == 1 && (t.entry 0).deadline == some 1300#32) = true := by decide +kernel
/-- R60, R63: the reply says CANCELLED (status 8), and a WITHDRAW goes to PD. -/
theorem test_cancel : shows (exec (.cancel .ad 0#8) (arriving .ad .cancel [7#8] forwarded))
    (fun t => granted .ad 0x84#8 [1#8, 7#8, 0x81#8, 0#8] t && granted .pd 0x85#8 [1#8, 0x20#8] t) = true := by decide +kernel
/-- R125, R131: the window is taken at once, and the cursor stands at its corner. -/
theorem test_draw_window : shows (exec (.drawWindow .ad 0#8) (arriving .ad .drawWindow (windowBody 5#8 0x40#8 1#8 3#8 4#8 1#8) base))
    (fun t => (t.draw .ad).window == ⟨⟨5, 319, 3, 4⟩, .column⟩ && (t.draw .ad).cx == 5 && (t.draw .ad).cy == 3 &&
      t.chargedTo .ad == 0) = true := by decide +kernel
/-- R119, R129: with two banner rows a pixel of AD in row 1 is passed over, the first run starts in row 2. -/
theorem test_draw_pixels : shows (exec (.drawPixels .ad 0#8)
      ((arriving .ad .drawPixels [1#8, 0#8, 2#8, 0#8] base).setDraw .ad { Draw.initial with cx := 319, cy := 1 }))
    (fun t => t.run == some { source := .frame .ad, x := 0, y := 2, dir := .row, pixels := [2#16], last := some 1 }) = true := by
  decide +kernel
theorem test_unknown_request : shows (exec (.unknownRequest .ad 0#8) (asking .ad 0x7F#8 [] base))
    (fun t => replied .ad 0x7F#8 6#8 [] t) = true := by decide +kernel
theorem test_control_malformed : shows (exec (.controlMalformed .rd 0#8) (arriving .rd .control [1#8] base))
    (fun t => refused .rd [1#8, 0x07#8, 1#8, 1#8, 0#8] t) = true := by decide +kernel
/-- R175: AD's link UP, no error, the first block of the request charged, no exchange, FIXED, StallLimit 50. -/
theorem test_query_link : shows (exec (.queryLink .ad 0#8) (asking .ad 0x01#8 [1#8] base))
    (fun t => replied .ad 0x01#8 0#8 [1#8, 0#8, 0#8, 1#8, 0#8, 0#8, 50#8] t) = true := by decide +kernel
/-- R176: a port that is neither owner nor peer is DENIED. -/
theorem test_query_channel_denied : shows (exec (.queryChannel .rd 0#8) (asking .rd 0x02#8 [1#8, 0#8] base))
    (fun t => replied .rd 0x02#8 1#8 [] t) = true := by decide +kernel
theorem test_query_session : shows (exec (.querySession .ad 0#8) (asking .ad 0x03#8 [] active))
    (fun t => replied .ad 0x03#8 0#8 [2#8, 1#8, 1#8, 1#8, 0#8] t) = true := by decide +kernel
theorem test_query_notices : shows (exec (.queryNotices .pd 0#8) (asking .pd 0x04#8 [] noticing))
    (fun t => replied .pd 0x04#8 0#8 [1#8, 0#8, 0xFF#8, 1#8] t && (t.notice .pd).set == 0#16 && (t.notice .pd).st == .none) = true := by
  decide +kernel
theorem test_set_notice_mask : shows (exec (.setNoticeMask .rd 0#8) (asking .rd 0x05#8 [0xFF#8, 0xFF#8] base))
    (fun t => replied .rd 0x05#8 0#8 [0xFF#8, 1#8] t && (t.notice .rd).mask == 0x01FF#16) = true := by decide +kernel
theorem test_hold : shows (exec (.hold .pd 0#8) (asking .pd 0x10#8 [1#8] base))
    (fun t => replied .pd 0x10#8 0#8 [0#8] t && (t.chan 0).ownHold) = true := by decide +kernel
/-- R13: RELEASED is latched for the owner. -/
theorem test_release : shows (exec (.release .pd 0#8) (asking .pd 0x11#8 [1#8] (setOwnHold 0 true base)))
    (fun t => !(t.chan 0).ownHold && hasCondition (t.notice .ad).set .released) = true := by decide +kernel
/-- R14, R63: the queued request ends BARRED (status 2) with no WITHDRAW. -/
theorem test_set_bar : shows (exec (.setBar .pd 0#8) (asking .pd 0x12#8 [1#8] queued))
    (fun t => (t.chan 0).bar && granted .ad 0x84#8 [1#8, 7#8, 0x21#8, 0#8] t && (t.arb .pd).iq == []) = true := by decide +kernel
theorem test_clear_bar : shows (exec (.clearBar .pd 0#8) (asking .pd 0x13#8 [1#8] (base.setChan 0 { Chan.initial with bar := true })))
    (fun t => !(t.chan 0).bar && replied .pd 0x13#8 0#8 [] t) = true := by decide +kernel
/-- R2: the values out of range are brought into it. -/
theorem test_write_channel : shows (exec (.writeChannel .pd 0#8) (asking .pd 0x20#8 writeArgs base))
    (fun t => match t.policy.areaB.recs.get 47 with
      | some r => r.maxSize == 1024 && r.creditBase == 4095 && r.refillPeriod == 1 && r.maxOutstanding == 1 &&
          r.responseLimit == 1 && r.maxExtends == 15 && r.retries == 2 && r.autoHold && !r.barOnTimeout && r.quietInSession
      | none => false) = true := by decide +kernel
/-- R87: area A is active, so it is INUSE (status 4). -/
theorem test_remove_channel_inuse : shows (exec (.removeChannel .pd 0#8) (asking .pd 0x21#8 [1#8, 1#8] base))
    (fun t => replied .pd 0x21#8 4#8 [] t && recordOf t 0 == some rec1) = true := by decide +kernel
theorem test_write_settings : shows
    (exec (.writeSettings .pd 0#8) (asking .pd 0x22#8 [2#8, 0#8, 0#8, 1#8, 9#8, 0#8, 0xFF#8, 33#8] base))
    (fun t => replied .pd 0x22#8 0#8 [0#8, 1#8, 1#8, 9#8, 0#8, 0xFF#8, 32#8] t && t.policy.areaB.bannerRows == 32) = true := by
  decide +kernel
theorem test_copy_area : shows (exec (.copyArea .pd 0#8) (asking .pd 0x23#8 [2#8] base))
    (fun t => t.policy.areaB == area && t.policy.areaA == area) = true := by decide +kernel
/-- R32, R93: area B holds no channel, so number 1 is removed and its credit goes. -/
theorem test_activate : shows (exec (.activate .pd 0#8) (asking .pd 0x24#8 [2#8] (funded 10)))
    (fun t => replied .pd 0x24#8 0#8 [1#8] t && t.policy.active == .b && (t.chan 0).credit == 0) = true := by decide +kernel
theorem test_full_clear : shows (exec (.fullClear .pd 0#8) (asking .pd 0x25#8 [] forwarded))
    (fun t => t.policy.areaA == Area.default && (t.entry 0).status == some .revoked && granted .ad 0x84#8 [1#8, 7#8, 0xA1#8, 0#8] t) = true := by
  decide +kernel
/-- R106: the limit 0 becomes 1, and its second ends at 2000. -/
theorem test_open_session : shows (exec (.openSession .pd 0#8) (asking .pd 0x30#8 (openArgs 0x3F#8) base))
    (fun t => replied .pd 0x30#8 0#8 [0x3F#8, 1#8, 0x3F#8, 1#8, 0xEF#8, 0#8, 0xEF#8, 0#8, 1#8, 0#8, 1#8] t &&
      t.session.secureInd && t.session.limitAt == some 2000#32) = true := by decide +kernel
/-- R112, R115: blank with no colour given takes the open fill colour, and the first of 11 columns' rows is filled. -/
theorem test_close_session : shows (exec (.closeSession .pd 0#8) (asking .pd 0x31#8 [1#8, 0#8, 0#8, 0#8] active))
    (fun t => !t.session.secureInd && t.session.state == .closing &&
      t.run == some { source := .fill, x := 10, y := 30, dir := .row, pixels := List.replicate 11 7#16, last := none }) = true := by
  decide +kernel
theorem test_touch_restart : shows (exec (.touchRestart .pd 0#8) (asking .pd 0x32#8 [] brim))
    (fun t => t.touch.link == .idle && t.touch.failures == 0) = true := by decide +kernel
/-- R83, R40: the end of a first forward with Retries 1 keeps the request; the charge stands. -/
theorem test_transmission_complete : shows (exec (.transmissionComplete .pd) (inFlight 11 forwarded))
    (fun t => (t.arb .pd).tx == none && t.chargedTo .ad == 1 && (t.entry 0).st == .forwarded) = true := by decide +kernel
/-- R34: at 1019 the gap of 20 after 999 ends, and the request goes out. -/
theorem test_gap_wait_end : shows (exec (.gapWaitEnd 1) { queued with time := 1019#32 })
    (fun t => (t.entry 0).st == .forwarded && (t.chan 0).lastForward == some 1019#32) = true := by decide +kernel
theorem test_last_forward_time_expiry : shows
    (exec (.lastForwardTimeExpiry 1) (base.setChan 0 { Chan.initial with lastForward := some 745#32 }))
    (fun t => (t.chan 0).lastForward == none) = true := by decide +kernel
/-- R31: 5 steps of 10 ms. -/
theorem test_refill : shows (exec (.refill 1) (base.setChan 0 { Chan.initial with refillAt := some 1000#32 }))
    (fun t => (t.chan 0).credit == 10 && (t.chan 0).refillAt == some 1050#32) = true := by decide +kernel
/-- R31: after the refill of its millisecond a message of cost 2 leaves C at 10; one millisecond later it leaves 8 (R30). -/
theorem test_request_after_refill :
    shows (exec (.request .ad 0#8) (requesting (refilled 1000#32))) (fun t => (t.chan 0).credit == 10) = true ∧
    shows (exec (.request .ad 0#8) (requesting (refilled 999#32))) (fun t => (t.chan 0).credit == 8) = true := by decide +kernel
/-- R57, R49: attempt 2 waits behind the gap of 20 after 980, which ends now, and goes out at once. -/
theorem test_deadline_retry : shows (exec (.deadline 0) forwarded)
    (fun t => (t.entry 0).attempt == 2 && granted .pd 0x82#8 [1#8, 0x20#8, 1#8, 2#8, 9#8] t) = true := by decide +kernel
theorem test_deadline_timeout : shows (exec (.deadline 0) (lastAttempt true))
    (fun t => granted .ad 0x84#8 [1#8, 7#8, 0x71#8, 0#8] t && granted .pd 0x85#8 [1#8, 0x20#8] t && (t.chan 0).bar) = true := by
  decide +kernel
/-- R169, R68: the exchange ends ABSENT (status 4). -/
theorem test_stall : shows (exec (.stall .pd) stalling)
    (fun t => (t.link .pd).state == .stalled && granted .ad 0x84#8 [1#8, 7#8, 0x41#8, 0#8] t) = true := by decide +kernel
/-- R111: the fill colour is 0x0000. -/
theorem test_session_limit : shows (exec .sessionLimitExpiry active)
    (fun t => t.run == some { source := .fill, x := 10, y := 30, dir := .row, pixels := List.replicate 11 0#16, last := none } &&
      hasCondition (t.notice .pd).set .sessionExpired) = true := by decide +kernel
theorem test_run_complete_opens : shows (exec .runComplete opening)
    (fun t => t.session.state == .active && t.session.secureInd && t.session.limitAt == some 6000#32) = true := by decide +kernel
theorem test_run_complete_closes : shows (exec .runComplete closing)
    (fun t => t.session.state == .idle && t.policy.active == .b && t.policy.pendingSwitch == none) = true := by decide +kernel
/-- R146: raw 4095 is column 319 and row 239; a contact of AD begins. -/
theorem test_touch_read : shows (exec (.touchReadComplete (report 1#8 0xFF#8 0x0F#8)) (base.setTouch { base.touch with link := .reading }))
    (fun t => granted .ad 0x89#8 [0#8, 0#8, 0x3F#8, 1#8, 0xEF#8, 0#8, 0xE8#8, 3#8, 0#8, 0#8] t && t.touch.link == .idle) = true := by
  decide +kernel
/-- R144: the third failure lifts PD's contact. -/
theorem test_touch_read_nack : shows (exec .touchReadNack (reading 2))
    (fun t => t.touch.link == .fault && t.touch.slot0 == none &&
      granted .pd 0x89#8 [2#8, 0#8, 0x3F#8, 1#8, 0xEF#8, 0#8, 0xE8#8, 3#8, 0#8, 0#8] t) = true := by decide +kernel
/-- R144, R151: the UP of the fault joins a full queue of DOWNs at the cost of the oldest, and TOUCH_LOST is latched. -/
theorem test_fault_at_full_queue : shows
    (exec .touchReadNack ((reading 2).setTouchQueue .pd (down0 :: List.replicate 7 { down0 with slot := 1 })))
    (fun t => (t.touchQueue .pd).length == 8 && ((t.touchQueue .pd).getLast?.map (·.kind)) == some .up &&
      (t.notice .pd).set == 0x0180#16) = true := by decide +kernel
theorem test_attention : shows (exec .attentionAssert base) (fun t => t.touch.link == .reading) = true ∧
    shows (exec .attentionRelease base) (fun t => t.touch == base.touch) = true := by decide +kernel
theorem test_tick_wraps : shows (exec .timeBaseTick { State.reset with time := 0xFFFFFFFF#32 }) (fun t => t.time == 0#32) = true := by
  decide +kernel
theorem test_power_on_reset : shows (exec .powerOnReset stalling) (fun t => t == State.reset) = true := by decide +kernel
/-- R158: the sync byte, then the type byte of HELLO. -/
theorem test_assembly_byte : shows (exec (.receiveAssemblyByte .rd 0xC3#8) base) (fun t => (t.link .rd).rx == .type 1000#32) = true ∧
    shows (exec (.receiveAssemblyByte .rd 0x01#8) (receiving .rd (.type 999#32) base))
      (fun t => (t.link .rd).rx == .length1 .hello 1000#32) = true := by decide +kernel
/-- R37: a body of 65 bytes takes two blocks. -/
theorem test_frame_header : shows (exec (.frameHeader .ad 0#8) (receiving .ad (.length2 .request 65#8 1000#32) base))
    (fun t => t.chargedTo .ad == 2) = true := by decide +kernel
theorem test_unknown_type : shows (exec (.unknownTypeDiscard .ad 0xC3#8) (receiving .ad (.type 999#32) base))
    (fun t => (t.link .ad).rx == .type 1000#32 && (t.link .ad).errors == 1) = true := by decide +kernel
/-- R158: 0x0411 is 1041 bytes; the three bytes hold no sync. -/
theorem test_length_overrun : shows (exec (.lengthOverrunDiscard .ad 0x04#8) (receiving .ad (.length2 .hello 0x11#8 999#32) base))
    (fun t => (t.link .ad).rx == .hunt && (t.link .ad).errors == 1) = true := by decide +kernel
theorem test_crc_mismatch : shows (exec (.crcMismatch .ad 1#8) ((arrivingFrame .ad (half (.charged 1) 2) base).setCharged .ad 1))
    (fun t => (t.link .ad).rx == .hunt && t.chargedTo .ad == 0 && (t.link .ad).errors == 1) = true := by decide +kernel
/-- R159: 21 ms after the latest byte. -/
theorem test_inter_byte_timeout : shows (exec (.interByteTimeout .rd) (receiving .rd (.type 979#32) base))
    (fun t => (t.link .rd).rx == .hunt && (t.link .rd).errors == 1) = true ∧
    shows (exec (.interByteTimeout .rd) (receiving .rd (.type 980#32) base)) (fun t => (t.link .rd).rx == .type 980#32) = true := by
  decide +kernel
theorem test_framing_error : shows (exec .framingError (receiving .rd (.type 999#32) base)) (fun t => (t.link .rd).errors == 1) = true ∧
    shows (exec .framingError base) (fun t => t == base) = true := by decide +kernel
/-- R154, R83: the byte that clocks out the last CRC byte completes the TOUCH, and the next frame is granted in the same command. -/
theorem test_last_byte_completes : shows (exec (.receiveAssemblyByte .ad 0#8)
      (sending .ad (touchTx 15) (base.setTouchQueue .ad [down0, { down0 with kind := .up }])))
    (fun t => t.touchQueue .ad == [{ down0 with kind := .up }] && (t.link .ad).ready &&
      granted .ad 0x89#8 [2#8, 0#8, 1#8, 0#8, 2#8, 0#8, 9#8, 0#8, 0#8, 0#8] t && (t.link .ad).stall == some 1500#32) = true := by
  decide +kernel
/-- R169, R170: a POST that lacks its second CRC byte at the stall gives back its block and waits for that byte. -/
theorem test_stall_first : shows (exec (.stall .pd) ((arrivingFrame .pd (whole .post (.charged 1) []) stalling).setCharged .pd 1))
    (fun t => (t.link .pd).rx == .late (whole .post .uncharged []) 0#8 && t.chargedTo .pd == 0 && (t.link .pd).errors == 0) = true := by
  decide +kernel
/-- R170 row 2: the byte then completes the frame, which is discarded and counted. -/
theorem test_post_after_stall : shows (exec (.post .pd 0#8)
      ((stalling.setLink .pd { base.link .pd with state := .stalled, rx := .late (whole .post .uncharged []) 0#8 })))
    (fun t => (t.link .pd).rx == .hunt && (t.link .pd).errors == 1 && (t.arb .pd).iq == []) = true := by decide +kernel
theorem test_cts_change : shows (exec (.ctsChange false true) base) (fun t => !t.radio.cts && t.radio.lastStarted) = true := by
  decide +kernel

end Sys2Proof.Tests
end

section
/-! The writes that the operations of the part are made of, and what holds of all of them. A relation between two states that
is reflexive and transitive and holds of each single write holds of every operation made of such writes; so a frame or an
invariant is proved write by write, and each operation is taken apart once. -/

namespace Sys2Proof.Proofs

open Sys2Proof Sys2Proof.Machine Sys2Proof.Safety

/-- `R` holds of every write of the channel engine, the exchange table and the notice unit, of the writes to an internal
part-frame queue, and of a release of blocks. -/
structure TrafficClosed (R : State → State → Prop) : Prop where
  refl : ∀ s, R s s
  trans : ∀ {s t u}, R s t → R t u → R s u
  setChan : ∀ s c v, R s (s.setChan c v)
  setEntry : ∀ s e v, R s (s.setEntry e v)
  setNotice : ∀ s p v, R s (s.setNotice p v)
  setParts : ∀ s p q, R s (s.setArb p { s.arb p with iq := q })
  setPointers : ∀ s p a b, R s (s.setArb p { s.arb p with ptr3 := a, ptr4 := b })
  setSource : ∀ s p (g : Tx → TxSource),
    R s (s.setArb p { s.arb p with tx := (s.arb p).tx.map fun t => { t with source := g t } })
  release : ∀ s p n, R s (release p n s)

/-- The source of a frame in transmission once its exchange, where it is a reply, has been dropped (R67, R82). -/
def droppedSource (t : Tx) : TxSource :=
  match t.source with
  | .reply e h _ => .reply e h true
  | src => src

namespace TrafficClosed

variable {R : State → State → Prop}

theorem of_foldl (C : TrafficClosed R) {α : Type} {f : State → α → State} (h : ∀ s a, R s (f s a)) (l : List α) (s : State) :
    R s (l.foldl f s) := by
  induction l generalizing s with
  | nil => exact C.refl s
  | cons a l ih => exact C.trans (h s a) (ih _)

theorem of_ite (C : TrafficClosed R) {c : Prop} [Decidable c] {s t : State} (h : R s t) : R s (if c then t else s) := by
  split
  · exact h
  · exact C.refl s

/-! ### Answers and notices -/

theorem of_pushPart (C : TrafficClosed R) (p : Port) (f : IFrame) (s : State) : R s (pushPart p f s) := C.setParts _ _ _

theorem of_answer (C : TrafficClosed R) (p : Port) (n : Nat) (f : PartFrame) (s : State) : R s (answer p n f s) :=
  C.trans (C.release _ _ _) (C.of_pushPart _ _ _)

theorem of_verdict (C : TrafficClosed R) (p : Port) (n : Nat) (why : Reason) (ty : FrameType) (ids : List Byte) (s : State) :
    R s (verdict p n why ty ids s) := C.of_answer _ _ _ _

theorem of_makeNotice (C : TrafficClosed R) (p : Port) (s : State) : R s (makeNotice p s) :=
  C.trans (C.setNotice _ _ _) (C.of_pushPart _ _ _)

theorem of_latch (C : TrafficClosed R) (p : Port) (k : Condition) (s : State) : R s (latch p k s) := by
  rw [latch_eq]
  exact C.trans (C.setNotice s p _) (C.setParts _ p _)

theorem of_latchAll (C : TrafficClosed R) (k : Condition) (s : State) : R s (latchAll k s) :=
  C.trans (C.of_latch _ _ _) (C.trans (C.of_latch _ _ _) (C.of_latch _ _ _))

theorem of_replaceMask (C : TrafficClosed R) (p : Port) (m : Half) (s : State) : R s (replaceMask p m s) := by
  unfold replaceMask
  dsimp only
  split
  · exact C.trans (C.setNotice _ _ _) (C.of_makeNotice _ _)
  · exact C.setNotice _ _ _

theorem of_noticeSent (C : TrafficClosed R) (p : Port) (s : State) : R s (noticeSent p s) := by
  unfold noticeSent
  dsimp only
  split
  · exact C.trans (C.setNotice _ _ _) (C.of_makeNotice _ _)
  · exact C.setNotice _ _ _

theorem of_takeNotices (C : TrafficClosed R) (p : Port) (s : State) : R s (takeNotices p s) := by
  unfold takeNotices
  dsimp only
  split
  · exact C.trans (C.setNotice s p _) (C.setParts _ p _)
  · exact C.setNotice _ _ _

theorem of_releaseQuiet (C : TrafficClosed R) (s : State) : R s (releaseQuiet s) := by
  refine C.of_foldl (fun s c => ?_) _ s
  split
  · exact C.of_ite (C.of_latch _ _ _)
  · exact C.refl s

/-! ### Exchanges -/

theorem of_releaseHeld (C : TrafficClosed R) (h : Option Held) (s : State) : R s (releaseHeld h s) := by
  cases h
  · exact C.refl s
  · exact C.release _ _ _

theorem of_freeIfDone (C : TrafficClosed R) (e : EntryIx) (s : State) : R s (freeIfDone e s) := C.of_ite (C.setEntry _ _ _)

theorem of_replyGone (C : TrafficClosed R) (e : EntryIx) (s : State) : R s (replyGone e s) :=
  C.trans (C.setChan _ _ _) (C.trans (C.setEntry _ _ _) (C.of_freeIfDone _ _))

theorem of_withdrawGone (C : TrafficClosed R) (e : EntryIx) (s : State) : R s (withdrawGone e s) :=
  C.trans (C.setEntry _ _ _) (C.of_freeIfDone _ _)

theorem of_dropRequest (C : TrafficClosed R) (e : EntryIx) (s : State) : R s (dropRequest e s) := by
  unfold dropRequest
  dsimp only
  split
  · exact C.trans (C.setSource s _ _) (C.setEntry _ _ _)
  · exact C.trans (C.release _ _ _) (C.setEntry _ _ _)

theorem of_makeWithdraw (C : TrafficClosed R) (e : EntryIx) (s : State) : R s (makeWithdraw e s) :=
  C.of_ite (C.trans (C.setEntry _ _ _) (C.of_pushPart _ _ _))

theorem of_endExchange (C : TrafficClosed R) (e : EntryIx) (st : Status) (s : State) : R s (endExchange e st s) := by
  have h : R s (joinReturn e none (dropRequest e (enterReplying e st s))) :=
    C.trans (C.setEntry _ _ _) (C.trans (C.of_dropRequest _ _) (C.setChan _ _ _))
  unfold endExchange
  dsimp only
  split
  · exact C.trans h (C.of_makeWithdraw _ _)
  · exact h

theorem of_endAll (C : TrafficClosed R) (es : List EntryIx) (st : Status) (s : State) : R s (endAll es st s) :=
  C.of_foldl (fun s e => C.of_endExchange e st s) es s

theorem of_forwardSent (C : TrafficClosed R) (e : EntryIx) (s : State) : R s (forwardSent e s) :=
  C.of_ite (C.trans (C.release _ _ _) (C.setEntry _ _ _))

theorem of_extendEntry (C : TrafficClosed R) (e : EntryIx) (s : State) : R s (extendEntry e s) := C.of_ite (C.setEntry _ _ _)

theorem of_deliverReply (C : TrafficClosed R) (e : EntryIx) (m : ReplyBody) (n : Nat) (s : State) :
    R s (deliverReply e m n s) :=
  C.trans (C.setChan _ _ _) (C.trans (C.setEntry _ _ _) (C.trans (C.of_dropRequest _ _)
    (C.trans (C.setChan _ _ _) (C.of_ite (C.setChan _ _ _)))))

/-! ### Channels -/

theorem of_setOwnHold (C : TrafficClosed R) (c : Chn) (v : Bool) (s : State) : R s (setOwnHold c v s) := C.setChan _ _ _

theorem of_holdPeerChannels (C : TrafficClosed R) (p : Port) (s : State) : R s (holdPeerChannels p s) := by
  refine C.of_foldl (fun s c => ?_) _ s
  split
  · exact C.of_ite (C.of_setOwnHold _ _ _)
  · exact C.refl s

theorem of_discardPosts (C : TrafficClosed R) (c : Chn) (why : Reason) (ms : List PostItem) (s : State) :
    R s (ms.foldl (fun s m => discardPost c why m s) s) := C.of_foldl (fun _ _ => C.of_verdict _ _ _ _ _ _) ms s

theorem of_barChannel (C : TrafficClosed R) (c : Chn) (o : Port) (s : State) : R s (barChannel c o s) :=
  C.trans (C.setChan _ _ _) (C.trans (C.of_latch _ _ _) (C.trans (C.setChan _ _ _) (C.trans (C.of_endAll _ _ _)
    (C.trans (C.setChan _ _ _) (C.trans (C.of_endAll _ _ _) (C.of_discardPosts _ _ _ _))))))

theorem of_barOnTimeout (C : TrafficClosed R) (e : EntryIx) (s : State) : R s (barOnTimeout e s) :=
  C.of_ite (C.of_barChannel _ _ _)

theorem of_deadlineReached (C : TrafficClosed R) (e : EntryIx) (s : State) : R s (deadlineReached e s) := by
  refine C.trans (C.setEntry s e { s.entry e with deadline := none }) ?_
  unfold deadlineReached
  dsimp only
  split
  · exact C.trans (C.of_endExchange _ _ _) (C.of_barOnTimeout _ _)
  · split
    · exact C.of_endExchange _ _ _
    · split
      · exact C.of_endExchange _ _ _
      · exact C.trans (C.setEntry _ _ _) (C.setChan _ _ _)

theorem of_debit (C : TrafficClosed R) (c : Chn) (r : ChannelRecord) (n : Nat) (s : State) : R s (debit c r n s) := by
  unfold debit
  split
  · exact C.refl s
  · exact C.setChan _ _ _

theorem of_admitRequest (C : TrafficClosed R) (p : Port) (c : Chn) (r : ChannelRecord) (m : Message) (n : Nat) (s : State) :
    R s (admitRequest p c r m n s) := by
  unfold admitRequest
  split
  · exact C.trans (C.setEntry _ _ _) (C.trans (C.of_debit _ _ _ _) (C.setChan _ _ _))
  · exact C.refl s

theorem of_admitPost (C : TrafficClosed R) (p : Port) (c : Chn) (r : ChannelRecord) (m : Message) (n : Nat) (s : State) :
    R s (admitPost p c r m n s) := C.trans (C.of_debit _ _ _ _) (C.setChan _ _ _)

/-! ### Frames of the channel engine and the exchange table, as they are taken -/

theorem of_takeRequest (C : TrafficClosed R) (p : Port) (n : Nat) (body : List Byte) (s : State) :
    R s (takeRequest p n body s) := by
  unfold takeRequest
  split
  · exact C.of_verdict _ _ _ _ _ _
  · split
    · exact C.of_verdict _ _ _ _ _ _
    · split
      · exact C.of_admitRequest _ _ _ _ _ _
      · exact C.of_answer _ _ _ _
      · exact C.trans (C.of_answer _ _ _ _) (C.of_latch _ _ _)

theorem of_takePost (C : TrafficClosed R) (p : Port) (n : Nat) (body : List Byte) (s : State) : R s (takePost p n body s) := by
  unfold takePost
  split
  · exact C.of_verdict _ _ _ _ _ _
  · split
    · exact C.of_admitPost _ _ _ _ _ _
    · exact C.of_verdict _ _ _ _ _ _
    · exact C.trans (C.of_verdict _ _ _ _ _ _) (C.of_latch _ _ _)

theorem of_takeReply (C : TrafficClosed R) (y : Port) (n : Nat) (body : List Byte) (s : State) :
    R s (takeReply y n body s) := by
  unfold takeReply
  split
  · exact C.of_verdict _ _ _ _ _ _
  · split
    · exact C.of_verdict _ _ _ _ _ _
    · split
      · split
        · exact C.of_verdict _ _ _ _ _ _
        · exact C.of_deliverReply _ _ _ _
      · exact C.of_verdict _ _ _ _ _ _

theorem of_takeExtend (C : TrafficClosed R) (y : Port) (n : Nat) (body : List Byte) (s : State) :
    R s (takeExtend y n body s) := by
  unfold takeExtend
  split
  · exact C.of_verdict _ _ _ _ _ _
  · split
    · exact C.of_verdict _ _ _ _ _ _
    · split
      · exact C.trans (C.release _ _ _) (C.of_extendEntry _ _)
      · split
        · exact C.release _ _ _
        · exact C.of_verdict _ _ _ _ _ _

theorem of_takeCancel (C : TrafficClosed R) (p : Port) (n : Nat) (body : List Byte) (s : State) :
    R s (takeCancel p n body s) := by
  unfold takeCancel
  split
  · exact C.of_verdict _ _ _ _ _ _
  · split
    · exact C.of_verdict _ _ _ _ _ _
    · split
      · exact C.of_verdict _ _ _ _ _ _
      · exact C.trans (C.release _ _ _) (C.trans (C.setChan _ _ _) (C.trans (C.setChan _ _ _) (C.of_endExchange _ _ _)))

/-! ### Switch, FULL_CLEAR and teardown, channel by channel -/

theorem of_recheckRetry (C : TrafficClosed R) (c : Chn) (e : EntryIx) (s : State) : R s (recheckRetry c e s) := by
  unfold recheckRetry
  split
  · exact C.refl s
  · exact C.trans (C.setChan _ _ _) (C.of_endExchange _ _ _)

theorem of_recheckItem (C : TrafficClosed R) (c : Chn) (i : FwdItem) (s : State) : R s (recheckItem c i s) := by
  cases i <;> simp only [recheckItem] <;> split
  · exact C.refl s
  · exact C.trans (C.setChan _ _ _) (C.of_endExchange _ _ _)
  · exact C.refl s
  · exact C.of_verdict _ _ _ _ _ _

theorem of_recheck (C : TrafficClosed R) (c : Chn) (s : State) : R s (recheck c s) :=
  C.trans (C.of_foldl (fun s e => C.of_recheckRetry c e s) _ s)
    (C.trans (C.of_foldl (fun s i => C.of_recheckItem c i s) _ _) (C.setChan _ _ _))

theorem of_switchChannel (C : TrafficClosed R) (v : Area) (c : Chn) (s : State) : R s (switchChannel v c s) :=
  C.trans (C.setChan _ _ _) (C.of_recheck _ _)

theorem of_resetPointers (C : TrafficClosed R) (s : State) : R s (resetPointers s) :=
  C.of_foldl (fun s p => C.setPointers s p _ _) _ s

/-- A switch is traffic on the state whose selector has changed. -/
theorem of_takeSwitch (C : TrafficClosed R) (i : AreaId) (s : State) :
    R (s.setPolicy { s.policy with active := i, pendingSwitch := none }) (takeSwitch i s) :=
  C.trans (C.of_foldl (fun s' c => C.of_switchChannel _ c s') _ _) (C.trans (C.of_resetPointers _) (C.of_latchAll _ _))

theorem of_clearChannel (C : TrafficClosed R) (c : Chn) (s : State) : R s (clearChannel c s) :=
  C.trans (C.setChan _ _ _) (C.trans (C.of_endAll _ _ _) (C.trans (C.setChan _ _ _) (C.trans (C.of_endAll _ _ _)
    (C.trans (C.of_endAll _ _ _) (C.trans (C.of_discardPosts _ _ _ _) (C.setChan _ _ _))))))

theorem of_clearAll (C : TrafficClosed R) (s : State) :
    R (s.setPolicy { areaA := .default, areaB := .default, active := .a, pendingSwitch := none }) (clearAll s) :=
  C.trans (C.of_foldl (fun s' c => C.of_clearChannel c s') _ _) (C.trans (C.of_resetPointers _) (C.of_latchAll _ _))

/-- Marking a reply in transmission writes the source of the frame in transmission and nothing else. -/
theorem markDropped_eq (p : Port) (s : State) :
    markDropped p s =
      s.setArb p { s.arb p with tx := (s.arb p).tx.map fun t => { t with source := droppedSource t } } := by
  unfold markDropped
  cases ht : (s.arb p).tx with
  | none => rfl
  | some t =>
    obtain ⟨ty, body, sent, source⟩ := t
    cases source <;> rfl

theorem of_markDropped (C : TrafficClosed R) (p : Port) (s : State) : R s (markDropped p s) := by
  rw [markDropped_eq]
  exact C.setSource s p _

theorem of_discardReply (C : TrafficClosed R) (e : EntryIx) (s : State) : R s (discardReply e s) :=
  C.trans (C.setChan _ _ _) (C.release _ _ _)

theorem of_dropExchange (C : TrafficClosed R) (p : Port) (e : EntryIx) (s : State) : R s (dropExchange p e s) := by
  unfold dropExchange
  dsimp only
  split
  · exact C.refl s
  · split
    · exact C.refl s
    · split
      · exact C.trans (C.of_markDropped _ _) (C.trans (C.setEntry _ _ _) (C.of_replyGone _ _))
      · exact C.trans (C.of_discardReply _ _) (C.trans (C.setEntry _ _ _) (C.of_replyGone _ _))
  · refine C.trans ?_ (C.of_replyGone _ _)
    have h : ∀ x, R s ((dropRequest e (leaveRetries e (leaveForward e s))).setEntry e x) := fun x =>
      C.trans (C.setChan _ _ _) (C.trans (C.setChan _ _ _) (C.trans (C.of_dropRequest _ _) (C.setEntry _ _ _)))
    split
    · exact C.trans (h _) (C.of_makeWithdraw _ _)
    · exact h _
  · refine C.trans ?_ (C.of_replyGone _ _)
    have h : ∀ x, R s ((dropRequest e s).setEntry e x) := fun x => C.trans (C.of_dropRequest _ _) (C.setEntry _ _ _)
    split
    · exact C.trans (h _) (C.of_makeWithdraw _ _)
    · exact h _

theorem of_dropRequests (C : TrafficClosed R) (p : Port) (s : State) : R s (dropRequests p s) :=
  C.of_foldl (fun _ _ => C.of_ite (C.of_dropExchange _ _ _)) _ s

theorem of_dropPosts (C : TrafficClosed R) (p : Port) (c : Chn) (s : State) : R s (dropPosts p c s) :=
  C.trans (C.setChan _ _ _) (C.of_foldl (fun s _ => C.release s _ _) _ _)

theorem of_endToward (C : TrafficClosed R) (p : Port) (st : Status) (c : Chn) (s : State) : R s (endToward p st c s) :=
  C.trans (C.setChan _ _ _) (C.trans (C.of_endAll _ _ _) (C.trans (C.of_endAll _ _ _) (C.trans (C.of_endAll _ _ _)
    (C.of_discardPosts _ _ _ _))))

end TrafficClosed

end Sys2Proof.Proofs
end

section
/-! The other writes of the part, and every operation made of them: receive assembly and the links, the policy store, the
session, the display filter, the touch router, teardowns, grants and the control endpoint. -/

namespace Sys2Proof.Proofs

open Sys2Proof Sys2Proof.Machine Sys2Proof.Safety

/-- `R` holds of every write of the part but those of the commands that wait, of the time base and of the bytes clocked. -/
structure PartClosed (R : State → State → Prop) : Prop extends TrafficClosed R where
  setPolicy : ∀ s v, R s (s.setPolicy v)
  setSession : ∀ s v, R s (s.setSession v)
  setDraw : ∀ s x v, R s (s.setDraw x v)
  setRun : ∀ s v, R s (s.setRun v)
  setTouch : ∀ s v, R s (s.setTouch v)
  setRadio : ∀ s v, R s (s.setRadio v)
  setRx : ∀ s p v, R s (setRx p v s)
  setState : ∀ s p v, R s (s.setLink p { s.link p with state := v })
  countError : ∀ s p, R s (countError p s)
  freeReserve : ∀ s p, R s (freeReserve p s)
  holdFrame : ∀ s p ty n, R s (holdFrame p ty n s).2
  startTx : ∀ s p ty body src, R s (startTx p ty body src s)
  clearTx : ∀ s p, R s (clearTx p s)

namespace PartClosed

variable {R : State → State → Prop}

/-! ### Policy store and session controller -/

theorem of_takeSwitch (C : PartClosed R) (i : AreaId) (s : State) : R s (takeSwitch i s) :=
  C.trans (C.setPolicy _ _) (C.toTrafficClosed.of_takeSwitch i s)

theorem of_clearAll (C : PartClosed R) (s : State) : R s (clearAll s) :=
  C.trans (C.setPolicy _ _) (C.toTrafficClosed.of_clearAll s)

theorem of_editRecord (C : PartClosed R) (f : SessRecord → SessRecord) (s : State) : R s (editRecord f s) := C.setSession _ _

theorem of_takePending (C : PartClosed R) (s : State) : R s (takePending s) := by
  unfold takePending
  split
  · exact C.of_takeSwitch _ _
  · exact C.refl s

theorem of_returnToIdle (C : PartClosed R) (s : State) : R s (returnToIdle s) :=
  C.trans (C.setSession _ _) (C.trans (C.of_releaseQuiet _) (C.trans (C.of_latchAll _ _) (C.of_takePending _)))

theorem of_enterActive (C : PartClosed R) (s : State) : R s (enterActive s) :=
  C.trans (C.of_editRecord _ _) (C.trans (C.setSession _ _) (C.of_latchAll _ _))

theorem of_enterClosing (C : PartClosed R) (k : Close) (s : State) : R s (enterClosing k s) := by
  have h : ∀ v, R s (latchAll .sessionChange ((editRecord (fun r => { r with closeReq := none }) s).setSession v)) :=
    fun v => C.trans (C.of_editRecord _ _) (C.trans (C.setSession _ v) (C.of_latchAll _ _))
  cases k
  · exact C.trans (h _) (C.of_editRecord _ _)
  · exact C.trans (h _) (C.of_returnToIdle _)

theorem of_endOpening (C : PartClosed R) (s : State) : R s (endOpening s) := by
  unfold endOpening
  split
  · exact C.of_enterClosing _ _
  · exact C.of_enterActive _

theorem of_openSession (C : PartClosed R) (a : OpenArgs) (s : State) : R s (openSession a s) := by
  have h : ∀ v, R s (latchAll .sessionChange (s.setSession v)) := fun v => C.trans (C.setSession _ v) (C.of_latchAll _ _)
  unfold openSession
  dsimp only
  split
  · exact h _
  · exact C.trans (h _) (C.of_enterActive _)

theorem of_closeForPd (C : PartClosed R) (s : State) : R s (closeForPd s) := by
  unfold closeForPd
  split
  · exact C.refl s
  · exact C.of_editRecord _ _
  · exact C.of_enterClosing _ _
  · exact C.refl s

theorem of_limitReached (C : PartClosed R) (s : State) : R s (limitReached s) :=
  C.trans (C.of_enterClosing _ _) (C.of_latch _ _ _)

/-! ### Display filter and panel arbiter -/

theorem of_takeFor (C : PartClosed R) (x : Screen) (s : State) : R s (takeFor x s) :=
  C.trans (C.setDraw _ _ _) (C.trans (C.release _ _ _) (C.setRun _ _))

theorem of_panelTake (C : PartClosed R) (s : State) : R s (panelTake s) := by
  have pd : R s (takePd s) := by
    unfold takePd
    split
    · exact C.refl s
    · exact C.of_takeFor _ _
  have fill : ∀ t, R t (takeFill t) := by
    intro t
    unfold takeFill
    split
    · exact C.trans (C.setRun _ _) (C.of_editRecord _ _)
    · exact C.refl t
  exact C.of_ite (C.trans pd (C.trans (fill _) (C.of_ite (C.of_takeFor _ _))))

theorem of_runCompleted (C : PartClosed R) (r : Run) (s : State) : R s (runCompleted r s) := by
  refine C.trans (C.setRun s none) ?_
  unfold runCompleted
  dsimp only
  split
  · refine C.trans ?_ (C.of_ite (C.of_endOpening _))
    split
    · exact C.release _ _ _
    · exact C.refl _
  · exact C.of_ite (C.of_returnToIdle _)

theorem of_joinDraw (C : PartClosed R) (p : Port) (x : Screen) (n : Nat) (ty : FrameType) (f : DrawFrame) (s : State) :
    R s (joinDraw p x n ty f s) := by
  unfold joinDraw
  split
  · exact C.of_verdict _ _ _ _ _ _
  · exact C.setDraw _ _ _

theorem of_takeDrawWindow (C : PartClosed R) (p : Port) (n : Nat) (body : List Byte) (s : State) :
    R s (takeDrawWindow p n body s) := by
  unfold takeDrawWindow
  split
  · exact C.of_verdict _ _ _ _ _ _
  · split
    · exact C.of_verdict _ _ _ _ _ _
    · split
      · exact C.of_verdict _ _ _ _ _ _
      · exact C.of_joinDraw _ _ _ _ _ _

theorem of_takeDrawPixels (C : PartClosed R) (p : Port) (n : Nat) (body : List Byte) (s : State) :
    R s (takeDrawPixels p n body s) := by
  unfold takeDrawPixels
  split
  · exact C.of_verdict _ _ _ _ _ _
  · split
    · exact C.of_verdict _ _ _ _ _ _
    · exact C.of_joinDraw _ _ _ _ _ _

/-! ### Touch router -/

theorem of_setTouchQueue (C : PartClosed R) (x : Screen) (q : List TouchEvent) (s : State) : R s (s.setTouchQueue x q) :=
  C.setTouch _ _

theorem of_deliver (C : PartClosed R) (o : Option Screen) (ev : TouchEvent) (s : State) : R s (deliver o ev s).1 := by
  cases o with
  | none => exact C.refl s
  | some x =>
    simp only [deliver, joinTouch]
    split
    · exact C.of_setTouchQueue _ _ _
    · split
      · split
        · exact C.of_setTouchQueue _ _ _
        · exact C.refl s
      · exact C.trans (C.of_setTouchQueue x _ s) (C.of_ite (C.of_latch _ _ _))

theorem of_setContact (C : PartClosed R) (i : Fin 2) (v : Option Contact) (s : State) : R s (setContact i v s) := by
  unfold setContact
  split <;> exact C.setTouch _ _

theorem of_slotStep (C : PartClosed R) (i : Fin 2) (seen : Option (Nat × Nat)) (s : State) : R s (slotStep i seen s) := by
  unfold slotStep
  dsimp only
  split
  · exact C.trans (C.of_setContact _ _ _) (C.of_deliver _ _ _)
  · split
    · exact C.refl s
    · exact C.trans (C.of_deliver _ _ _) (C.of_ite (C.of_setContact _ _ _))
  · exact C.trans (C.of_setContact _ _ _) (C.of_deliver _ _ _)
  · exact C.refl s

theorem of_touchIdle (C : PartClosed R) (s : State) : R s (touchIdle s) := C.setTouch _ _

theorem of_liftContact (C : PartClosed R) (i : Fin 2) (s : State) : R s (liftContact i s) := by
  unfold liftContact
  split
  · exact C.of_deliver _ _ _
  · exact C.refl s

theorem of_touchFault (C : PartClosed R) (s : State) : R s (touchFault s) :=
  C.trans (C.setTouch _ _) (C.trans (C.of_liftContact _ _) (C.trans (C.of_liftContact _ _)
    (C.trans (C.of_setContact _ _ _) (C.trans (C.of_setContact _ _ _) (C.of_latch _ _ _)))))

theorem of_readFailed (C : PartClosed R) (s : State) : R s (readFailed s) := by
  unfold readFailed
  dsimp only
  split
  · exact C.trans (C.setTouch _ _) (C.of_touchFault _)
  · exact C.trans (C.setTouch _ _) (C.of_touchIdle _)

theorem of_readGood (C : PartClosed R) (r : List Byte) (s : State) : R s (readGood r s) :=
  C.trans (C.setTouch _ _) (C.trans (C.of_slotStep _ _ _) (C.trans (C.of_slotStep _ _ _) (C.of_touchIdle _)))

/-! ### Teardown -/

theorem of_releaseBlock (C : PartClosed R) (p : Port) (b : BlockRef) (s : State) : R s (releaseBlock p b s) := by
  cases b
  · exact C.release _ _ _
  · exact C.freeReserve _ _
  · exact C.refl s

theorem of_discardPart (C : PartClosed R) (p : Port) (f : IFrame) (s : State) : R s (discardPart p f s) := by
  unfold discardPart
  split
  · exact C.setNotice _ _ _
  · exact C.of_withdrawGone _ _
  all_goals exact C.of_releaseBlock _ _ _

theorem of_discardParts (C : PartClosed R) (p : Port) (s : State) : R s (discardParts p s) :=
  C.trans (C.setParts _ _ _) (C.of_foldl (fun s f => C.of_discardPart p f s) _ _)

theorem of_tearDraw (C : PartClosed R) (x : Screen) (s : State) : R s (tearDraw x s) := by
  have h : ∀ n, R s (release (portOfScreen x) n (s.setDraw x .initial)) := fun n => C.trans (C.setDraw _ _ _) (C.release _ _ n)
  unfold tearDraw
  dsimp only
  split
  · split
    · exact C.trans (h _) (C.setRun _ _)
    · exact h _
  · exact h _

theorem of_tearTouch (C : PartClosed R) (x : Screen) (s : State) : R s (tearTouch x s) :=
  C.trans (C.of_setTouchQueue _ _ _) (C.setTouch _ _)

theorem of_teardown (C : PartClosed R) (p : Port) (st : Status) (s : State) : R s (teardown p st s) := by
  refine C.trans (C.trans (C.of_discardParts p s) (C.of_dropRequests p _)) ?_
  refine C.trans (C.of_foldl (fun s c => C.of_dropPosts p c s) allChns _) ?_
  refine C.trans (C.of_foldl (fun s c => C.of_endToward p st c s) allChns _) ?_
  unfold teardown
  dsimp only
  refine C.trans ?_ (C.of_latch _ _ _)
  refine C.trans ?_ (C.of_ite (C.of_closeForPd _))
  refine C.trans ?_ (C.setNotice _ _ _)
  split
  · exact C.trans (C.of_tearDraw _ _) (C.of_tearTouch _ _)
  · exact C.refl _

/-! ### Receive assembly -/

theorem of_releaseHold (C : PartClosed R) (p : Port) (h : RxHold) (s : State) : R s (releaseHold p h s) := by
  cases h
  · exact C.release _ _ _
  · exact C.freeReserve _ _
  · exact C.refl s
  · exact C.refl s

theorem of_discardPartial (C : PartClosed R) (p : Port) (s : State) : R s (discardPartial p s) := by
  refine C.trans ?_ (C.setRx _ p .hunt)
  split
  · exact C.of_releaseHold _ _ _
  · exact C.refl s

theorem of_takeHeader (C : PartClosed R) (p : Port) (ty : FrameType) (lo hi : Byte) (s : State) :
    R s (takeHeader p ty lo hi s) := C.trans (C.holdFrame _ _ _ _) (C.setRx _ _ _)

theorem of_reexamine (C : PartClosed R) (p : Port) (b : Byte) (s : State) : R s (reexamine p b s) := by
  unfold reexamine
  split
  · split
    · exact C.setRx _ _ _
    · exact C.trans (C.countError _ _) (C.setRx _ _ _)
  · exact C.setRx _ _ _
  · exact C.setRx _ _ _
  · exact C.setRx _ _ _
  all_goals exact C.refl s

theorem of_handOn (C : PartClosed R) (p : Port) (f : RxFrame) {take : Nat → List Byte → State → State}
    (h : ∀ n b s, R s (take n b s)) (s : State) : R s (handOn p f take s) := by
  unfold handOn
  split
  · split
    · exact h _ _ _
    · exact C.trans (C.release _ _ _) (C.countError _ _)
  · exact C.of_pushPart _ _ _
  · exact C.refl s
  · exact C.countError _ _

theorem of_takeHello (C : PartClosed R) (p : Port) (block : BlockRef) (s : State) : R s (takeHello p block s) := by
  have up : R s (latch .pd .linkChange (holdPeerChannels p (s.setLink p { s.link p with state := .up }))) :=
    C.trans (C.setState _ _ _) (C.trans (C.of_holdPeerChannels _ _) (C.of_latch _ _ _))
  unfold takeHello
  split
  · exact C.trans (C.of_teardown _ _ _) (C.trans (C.of_holdPeerChannels _ _) (C.of_pushPart _ _ _))
  · exact C.trans up (C.of_pushPart _ _ _)
  · exact C.trans up (C.of_pushPart _ _ _)

theorem of_heldHello (C : PartClosed R) (p : Port) (len : Nat) (h : RxHold) (s : State) : R s (heldHello p len h s) := by
  unfold heldHello
  split
  · split
    · exact C.trans (C.release _ _ _) (C.of_takeHello _ _ _)
    · exact C.trans (C.release _ _ _) (C.countError _ _)
  · split
    · exact C.of_takeHello _ _ _
    · exact C.trans (C.freeReserve _ _) (C.countError _ _)
  · exact C.refl s
  · exact C.countError _ _

theorem of_goodHello (C : PartClosed R) (p : Port) (f : RxFrame) (s : State) : R s (goodHello p f s) := by
  unfold goodHello
  split
  · exact C.of_heldHello _ _ _ _
  · exact C.of_heldHello _ _ _ _
  · exact C.of_heldHello _ _ _ _
  · exact C.trans (C.holdFrame _ _ _ _) (C.of_heldHello _ _ _ _)

/-! ### Transmissions -/

theorem of_txEnded (C : PartClosed R) (p : Port) (done : Bool) (src : TxSource) (s : State) : R s (txEnded p done src s) := by
  unfold txEnded
  split
  · exact C.of_releaseBlock _ _ _
  · split
    · exact C.of_noticeSent _ _
    · exact C.setNotice _ _ _
  · exact C.of_withdrawGone _ _
  · unfold touchGone
    split
    · exact C.of_setTouchQueue _ _ _
    · exact C.refl s
  · dsimp only
    split
    · exact C.of_releaseHeld _ _
    · exact C.trans (C.of_releaseHeld _ _) (C.of_replyGone _ _)
  · exact C.of_releaseHeld _ _
  · exact C.of_forwardSent _ _
  · exact C.of_releaseHeld _ _

theorem of_endTx (C : PartClosed R) (p : Port) (done : Bool) (s : State) : R s (endTx p done s) := by
  unfold endTx
  split
  · exact C.trans (C.clearTx _ _) (C.of_txEnded _ _ _ _)
  · exact C.refl s

theorem of_stallPort (C : PartClosed R) (p : Port) (s : State) : R s (stallPort p s) :=
  C.trans (C.of_endTx _ _ _) (C.trans (C.setState _ _ _) (C.trans (C.of_discardPartial _ _)
    (C.trans (C.setRx _ _ _) (C.of_teardown _ _ _))))

theorem of_forwardRequest (C : PartClosed R) (p : Port) (c : Chn) (e : EntryIx) (s : State) :
    R s (forwardRequest p c e s) := C.trans (C.setEntry _ _ _) (C.startTx _ _ _ _ _)

theorem of_forwardPost (C : PartClosed R) (p : Port) (c : Chn) (m : PostItem) (s : State) : R s (forwardPost p c m s) := by
  refine C.trans ?_ (C.startTx _ p _ _ _)
  split
  · exact C.of_ite (C.setChan _ _ _)
  · exact C.refl s

theorem of_grantForward (C : PartClosed R) (p : Port) (c : Chn) (s : State) : R s (grantForward p c s) := by
  have h : ∀ a v, R s ((s.setArb p { s.arb p with ptr4 := a }).setChan c v) := fun a v =>
    C.trans (C.setPointers s p (s.arb p).ptr3 a) (C.setChan _ _ _)
  unfold grantForward
  dsimp only
  split
  · exact C.trans (h _ _) (C.of_forwardRequest _ _ _ _)
  · split
    · exact C.trans (h _ _) (C.of_forwardRequest _ _ _ _)
    · exact C.trans (h _ _) (C.of_forwardPost _ _ _ _)
    · exact C.setPointers s p (s.arb p).ptr3 _

theorem of_grantReply (C : PartClosed R) (p : Port) (c : Chn) (s : State) : R s (grantReply p c s) := by
  unfold grantReply
  split
  · exact C.trans (C.setChan s c _) (C.trans (C.setPointers _ p _ (s.arb p).ptr4) (C.startTx _ _ _ _ _))
  · exact C.refl s

theorem of_grantPart (C : PartClosed R) (p : Port) (f : IFrame) (rest : List IFrame) (s : State) :
    R s (grantPart p f rest s) := by
  unfold grantPart
  dsimp only
  split
  · exact C.trans (C.setParts s p rest) (C.trans (C.setNotice _ _ _) (C.startTx _ _ _ _ _))
  · exact C.trans (C.setParts s p rest) (C.startTx _ _ _ _ _)

theorem of_grant (C : PartClosed R) (p : Port) (s : State) : R s (grant p s) := by
  refine C.of_ite ?_
  split
  · exact C.of_grantPart _ _ _ _
  · split
    · exact C.startTx _ _ _ _ _
    · split
      · exact C.of_grantReply _ _ _
      · split
        · exact C.of_grantForward _ _ _
        · exact C.refl s

theorem of_settle (C : PartClosed R) (s : State) : R s (settle s) := by
  have round : ∀ t, R t (grantRound t) := fun t => C.trans (C.of_grant _ _) (C.trans (C.of_grant _ _) (C.of_grant _ _))
  exact C.trans (C.of_panelTake s) (C.trans (round _) (C.trans (round _) (round _)))

/-! ### The control endpoint -/

theorem of_endpoint (C : PartClosed R) (c : Ctl) (p : Port) {act : List Byte → State → Answered}
    (h : ∀ a s, R s (act a s).state) (n : Nat) (body : List Byte) (s : State) : R s (endpoint c p act n body s) := by
  refine C.trans ?_ (C.of_pushPart _ _ _)
  refine C.trans (C.release s p (n - 1)) ?_
  unfold checked
  split
  · exact C.refl _
  · split
    · exact C.refl _
    · exact h _ _

theorem of_actQueryLink (C : PartClosed R) (p : Port) (a : List Byte) (s : State) : R s (actQueryLink p a s).state := by
  unfold actQueryLink
  split
  · exact C.refl s
  · split <;> exact C.refl s

theorem of_actQueryChannel (C : PartClosed R) (p : Port) (a : List Byte) (s : State) : R s (actQueryChannel p a s).state := by
  unfold actQueryChannel
  split
  · exact C.refl s
  · split
    · split <;> exact C.refl s
    · split
      · split <;> exact C.refl s
      · exact C.refl s

theorem of_actHold (C : PartClosed R) (p : Port) (a : List Byte) (s : State) : R s (actHold p a s).state := by
  unfold actHold
  split
  · exact C.refl s
  · exact C.of_setOwnHold _ _ _

theorem of_actRelease (C : PartClosed R) (p : Port) (a : List Byte) (s : State) : R s (actRelease p a s).state := by
  unfold actRelease
  split
  · exact C.refl s
  · exact C.trans (C.of_setOwnHold _ _ _) (C.of_ite (C.of_latch _ _ _))

theorem of_actSetBar (C : PartClosed R) (a : List Byte) (s : State) : R s (actSetBar a s).state := by
  unfold actSetBar
  split
  · exact C.refl s
  · dsimp only
    split
    · exact C.refl s
    · exact C.of_barChannel _ _ _

theorem of_actClearBar (C : PartClosed R) (a : List Byte) (s : State) : R s (actClearBar a s).state := by
  unfold actClearBar
  split
  · exact C.refl s
  · exact C.setChan _ _ _

theorem of_setArea (C : PartClosed R) (i : AreaId) (v : Area) (s : State) : R s (setArea i v s) := by
  cases i <;> exact C.setPolicy _ _

theorem of_actWriteChannel (C : PartClosed R) (a : List Byte) (s : State) : R s (actWriteChannel a s).state := by
  unfold actWriteChannel
  split
  · exact C.refl s
  · split
    · exact C.of_setArea _ _ _
    · exact C.refl s

theorem of_actRemoveChannel (C : PartClosed R) (a : List Byte) (s : State) : R s (actRemoveChannel a s).state := by
  unfold actRemoveChannel
  split
  · exact C.refl s
  · split
    · exact C.of_setArea _ _ _
    · exact C.refl s

theorem of_actWriteSettings (C : PartClosed R) (a : List Byte) (s : State) : R s (actWriteSettings a s).state := by
  unfold actWriteSettings
  split
  · exact C.refl s
  · split
    · exact C.of_setArea _ _ _
    · exact C.refl s

theorem of_actCopyArea (C : PartClosed R) (a : List Byte) (s : State) : R s (actCopyArea a s).state := by
  unfold actCopyArea
  split
  · exact C.refl s
  · exact C.of_setArea _ _ _

theorem of_actActivate (C : PartClosed R) (a : List Byte) (s : State) : R s (actActivate a s).state := by
  unfold actActivate
  split
  · exact C.refl s
  · split
    · exact C.setPolicy _ _
    · split
      · exact C.of_takeSwitch _ _
      · exact C.setPolicy _ _

theorem of_actFullClear (C : PartClosed R) (a : List Byte) (s : State) : R s (actFullClear a s).state := by
  unfold actFullClear
  split
  · exact C.of_clearAll s
  · exact C.refl s

theorem of_actOpenSession (C : PartClosed R) (a : List Byte) (s : State) : R s (actOpenSession a s).state := by
  unfold actOpenSession
  dsimp only
  split
  · exact C.refl s
  · split
    · exact C.refl s
    · exact C.of_openSession _ _

theorem of_actCloseSession (C : PartClosed R) (a : List Byte) (s : State) : R s (actCloseSession a s).state := by
  unfold actCloseSession
  split
  · exact C.refl s
  · split
    · exact C.refl s
    · exact C.of_editRecord _ _
  · exact C.of_enterClosing _ _
  · exact C.refl s

theorem of_actTouchRestart (C : PartClosed R) (a : List Byte) (s : State) : R s (actTouchRestart a s).state :=
  C.of_ite (C.trans (C.setTouch _ _) (C.of_touchIdle _))

end PartClosed

end Sys2Proof.Proofs
end

section
/-! Events, and the commands: what holds of every event of the part holds of every command but the power-on reset, which writes
the whole state, and the tick, which takes events and then moves the time base. -/

namespace Sys2Proof.Proofs

open Sys2Proof Sys2Proof.Machine Sys2Proof.Safety

/-- `E` holds of every event whose operations `R` holds of: of an operation alone, of one event after another, and of the arrival
of a byte with the completion of the frame that it clocks out whole (R154). -/
structure EventClosed (R E : State → State → Prop) : Prop extends PartClosed R where
  of : ∀ {s t}, R s t → E s t
  andThen : ∀ {s t u}, E s t → E t u → E s u
  byteEvent : ∀ {k : State → State}, (∀ s, R s (k s)) → ∀ p s, E s (byteEvent p k s)

/-- The command has come to a next state, and `E` holds of it. -/
def Leaves (E : State → State → Prop) (s : State) (r : Result) : Prop := ∃ t, r = .next t ∧ E s t

namespace EventClosed

variable {R E : State → State → Prop}

theorem still (C : EventClosed R E) (s : State) : E s s := C.of (C.refl s)

theorem settled (C : EventClosed R E) {s t : State} (h : R s t) : E s (settle t) := C.of (C.trans h (C.of_settle t))

theorem settledIf (C : EventClosed R E) {c : Prop} [Decidable c] {s t : State} (h : R s t) :
    E s (if c then settle t else s) := by
  split
  · exact C.settled h
  · exact C.still s

theorem foldl (C : EventClosed R E) {α : Type} {f : State → α → State} (h : ∀ s a, E s (f s a)) (l : List α) (s : State) :
    E s (l.foldl f s) := by
  induction l generalizing s with
  | nil => exact C.still s
  | cons a l ih => exact C.andThen (h s a) (ih _)

/-! ### Timed events -/

theorem of_interByteEvent (C : EventClosed R E) (p : Port) (s : State) : E s (interByteEvent p s) :=
  C.settledIf (C.trans (C.of_discardPartial _ _) (C.countError _ _))

theorem of_stallEvent (C : EventClosed R E) (p : Port) (s : State) : E s (stallEvent p s) := C.settledIf (C.of_stallPort _ _)

theorem of_refillEvent (C : EventClosed R E) (c : Chn) (s : State) : E s (refillEvent c s) := by
  unfold refillEvent
  split
  · exact C.settledIf (C.setChan _ _ _)
  · exact C.still s

theorem of_lastForwardEvent (C : EventClosed R E) (c : Chn) (s : State) : E s (lastForwardEvent c s) := by
  unfold lastForwardEvent
  split
  · exact C.settledIf (C.setChan _ _ _)
  · exact C.still s

theorem of_deadlineEvent (C : EventClosed R E) (e : EntryIx) (s : State) : E s (deadlineEvent e s) :=
  C.settledIf (C.of_deadlineReached _ _)

theorem of_limitEvent (C : EventClosed R E) (s : State) : E s (limitEvent s) := C.settledIf (C.of_limitReached _)

theorem of_gapEvent (C : EventClosed R E) (c : Chn) (s : State) : E s (gapEvent c s) := by
  unfold gapEvent
  split
  · exact C.settledIf (C.refl s)
  · exact C.still s

/-- The events that a tick takes before the time moves (R22, R23). -/
theorem of_takeDue (C : EventClosed R E) (s : State) : E s (takeDue s) := by
  refine C.andThen (C.foldl (fun s p => C.of_interByteEvent p s) allPorts s) ?_
  refine C.andThen (C.foldl (fun s p => C.of_stallEvent p s) allPorts _) ?_
  refine C.andThen (C.foldl (fun s c => C.of_refillEvent c s) allChns _) ?_
  refine C.andThen (C.foldl (fun s c => C.of_lastForwardEvent c s) allChns _) ?_
  refine C.andThen (C.foldl (fun s e => C.of_deadlineEvent e s) allEntries _) ?_
  exact C.andThen (C.of_limitEvent _) (C.foldl (fun s c => C.of_gapEvent c s) allChns _)

theorem of_settleRx (C : EventClosed R E) (s : State) : E s (settleRx s) := C.foldl (fun s p => C.of (C.setRx s p _)) _ s

/-! ### Frames -/

theorem of_frameEvent (C : EventClosed R E) (p : Port) (b : Byte) (want : RxFrame → Bool) {k : RxFrame → State → State}
    (h : ∀ f s, R s (k f s)) (s : State) : E s (frameEvent p b want k s) := by
  unfold frameEvent
  split
  · split
    · exact C.byteEvent (fun s => C.trans (C.setRx s p .hunt) (h _ _)) p s
    · exact C.still s
  all_goals exact C.still s

theorem of_typedFrame (C : EventClosed R E) (ty : FrameType) (p : Port) (b : Byte) {take : Nat → List Byte → State → State}
    (h : ∀ n b s, R s (take n b s)) (s : State) : E s (typedFrame ty p b take s) :=
  C.of_frameEvent p b _ (fun f s => C.of_handOn p f h s) s

theorem of_controlFrame (C : EventClosed R E) (c : Ctl) (p : Port) (b : Byte) {act : List Byte → State → Answered}
    (h : ∀ a s, R s (act a s).state) (s : State) : E s (controlFrame c p b act s) :=
  C.of_frameEvent p b _ (fun f s => C.of_handOn p f (C.of_endpoint c p h) s) s

theorem of_controlMalformed (C : EventClosed R E) (p : Port) (b : Byte) (s : State) : Leaves E s (execControlMalformed p b s) :=
  ⟨_, rfl, C.of_frameEvent p b _ (fun f s => C.of_handOn p f (fun _ _ s => C.of_verdict _ _ _ _ _ s) s) s⟩

theorem of_unknownRequest (C : EventClosed R E) (p : Port) (b : Byte) (s : State) : Leaves E s (execUnknownRequest p b s) :=
  ⟨_, rfl, C.of_frameEvent p b _
    (fun f s => C.of_handOn p f (fun _ _ s => C.trans (C.release s _ _) (C.of_pushPart _ _ _)) s) s⟩

/-- A control request, whatever it asks for. -/
theorem of_ctlCommand (C : EventClosed R E) (c : Ctl) (p : Port) (b : Byte) (s : State) :
    Leaves E s (exec (ctlCommand c p b) s) := by
  cases c with
  | queryLink => exact ⟨_, rfl, C.of_controlFrame _ p b (C.of_actQueryLink p) s⟩
  | queryChannel => exact ⟨_, rfl, C.of_controlFrame _ p b (C.of_actQueryChannel p) s⟩
  | querySession => exact ⟨_, rfl, C.of_controlFrame _ p b (fun _ s => C.refl s) s⟩
  | queryNotices => exact ⟨_, rfl, C.of_controlFrame _ p b (fun _ s => C.of_takeNotices p s) s⟩
  | setNoticeMask => exact ⟨_, rfl, C.of_controlFrame _ p b (fun _ s => C.of_replaceMask p _ s) s⟩
  | hold => exact ⟨_, rfl, C.of_controlFrame _ p b (C.of_actHold p) s⟩
  | release => exact ⟨_, rfl, C.of_controlFrame _ p b (C.of_actRelease p) s⟩
  | setBar => exact ⟨_, rfl, C.of_controlFrame _ p b C.of_actSetBar s⟩
  | clearBar => exact ⟨_, rfl, C.of_controlFrame _ p b C.of_actClearBar s⟩
  | writeChannel => exact ⟨_, rfl, C.of_controlFrame _ p b C.of_actWriteChannel s⟩
  | removeChannel => exact ⟨_, rfl, C.of_controlFrame _ p b C.of_actRemoveChannel s⟩
  | writeSettings => exact ⟨_, rfl, C.of_controlFrame _ p b C.of_actWriteSettings s⟩
  | copyArea => exact ⟨_, rfl, C.of_controlFrame _ p b C.of_actCopyArea s⟩
  | activate => exact ⟨_, rfl, C.of_controlFrame _ p b C.of_actActivate s⟩
  | fullClear => exact ⟨_, rfl, C.of_controlFrame _ p b C.of_actFullClear s⟩
  | openSession => exact ⟨_, rfl, C.of_controlFrame _ p b C.of_actOpenSession s⟩
  | closeSession => exact ⟨_, rfl, C.of_controlFrame _ p b C.of_actCloseSession s⟩
  | touchRestart => exact ⟨_, rfl, C.of_controlFrame _ p b C.of_actTouchRestart s⟩

/-- The step of a CONTROL with a request code of the table is the command of that request (R173). -/
theorem execControl_of_code {c : Ctl} (p : Port) (b : Byte) {body : List Byte} (s : State) (h : ¬ body.length < 2)
    (hc : ctlOf (byteAt body 0) = some c) : execControl p b body s = exec (ctlCommand c p b) s := by
  unfold execControl
  rw [if_neg h, hc]
  cases c <;> rfl

theorem of_control (C : EventClosed R E) (p : Port) (b : Byte) (body : List Byte) (s : State) :
    Leaves E s (execControl p b body s) := by
  by_cases short : body.length < 2
  · rw [execControl, if_pos short]
    exact C.of_controlMalformed p b s
  · cases code : ctlOf (byteAt body 0) with
    | none =>
      rw [execControl, if_neg short, code]
      exact C.of_unknownRequest p b s
    | some c =>
      rw [execControl_of_code p b s short code]
      exact C.of_ctlCommand c p b s

theorem of_hello (C : EventClosed R E) (p : Port) (b : Byte) (s : State) : Leaves E s (execHello p b s) :=
  ⟨_, rfl, C.of_frameEvent p b _ (C.of_goodHello p) s⟩

theorem of_good (C : EventClosed R E) (p : Port) (b : Byte) (f : RxFrame) (s : State) : Leaves E s (execGood p b f s) := by
  unfold execGood
  split
  · exact C.of_hello p b s
  · exact ⟨_, rfl, C.of_typedFrame _ p b (C.of_takeRequest p) s⟩
  · exact ⟨_, rfl, C.of_typedFrame _ p b (C.of_takePost p) s⟩
  · exact ⟨_, rfl, C.of_typedFrame _ p b (C.of_takeReply p) s⟩
  · exact ⟨_, rfl, C.of_typedFrame _ p b (C.of_takeExtend p) s⟩
  · exact ⟨_, rfl, C.of_typedFrame _ p b (C.of_takeCancel p) s⟩
  · exact C.of_control p b _ s
  · exact ⟨_, rfl, C.of_typedFrame _ p b (C.of_takeDrawWindow p) s⟩
  · exact ⟨_, rfl, C.of_typedFrame _ p b (C.of_takeDrawPixels p) s⟩

/-! ### Bytes that take no good frame -/

theorem of_frameHeader (C : EventClosed R E) (p : Port) (b : Byte) (s : State) : Leaves E s (execFrameHeader p b s) := by
  unfold execFrameHeader
  split
  · exact ⟨_, rfl, C.byteEvent (fun s => C.of_takeHeader p _ _ b s) p s⟩
  all_goals exact ⟨_, rfl, C.still s⟩

theorem of_unknownType (C : EventClosed R E) (p : Port) (b : Byte) (s : State) :
    Leaves E s (execUnknownTypeDiscard p b s) := by
  unfold execUnknownTypeDiscard
  split
  · exact ⟨_, rfl, C.byteEvent (fun s => C.trans (C.countError s p) (C.trans (C.setRx _ _ _) (C.of_reexamine _ _ _))) p s⟩
  all_goals exact ⟨_, rfl, C.still s⟩

theorem of_lengthOverrun (C : EventClosed R E) (p : Port) (b : Byte) (s : State) :
    Leaves E s (execLengthOverrunDiscard p b s) := by
  unfold execLengthOverrunDiscard
  split
  · exact ⟨_, rfl, C.byteEvent (fun s => C.trans (C.countError s p) (C.trans (C.setRx _ _ _)
      (C.trans (C.of_reexamine _ _ _) (C.trans (C.of_reexamine _ _ _) (C.of_reexamine _ _ _))))) p s⟩
  all_goals exact ⟨_, rfl, C.still s⟩

theorem of_crcMismatch (C : EventClosed R E) (p : Port) (b : Byte) (s : State) : Leaves E s (execCrcMismatch p b s) := by
  unfold execCrcMismatch
  split
  · exact ⟨_, rfl, C.byteEvent (fun s => C.trans (C.setRx s p .hunt) (C.trans (C.of_releaseHold _ _ _) (C.countError _ _))) p s⟩
  all_goals exact ⟨_, rfl, C.still s⟩

theorem of_receiveByte (C : EventClosed R E) (p : Port) (b : Byte) (s : State) :
    Leaves E s (execReceiveAssemblyByte p b s) := by
  unfold execReceiveAssemblyByte
  split
  · exact ⟨_, rfl, C.byteEvent (fun s => C.setRx s p _) p s⟩
  · exact C.of_unknownType p b s
  · exact C.of_lengthOverrun p b s
  · exact C.of_frameHeader p b s
  · exact C.of_crcMismatch p b s
  · exact C.of_good p b _ s

/-! ### Every command -/

theorem of_framingError (C : EventClosed R E) (s : State) : Leaves E s (execFramingError s) := by
  unfold execFramingError
  split
  · exact ⟨_, rfl, C.settled (C.trans (C.of_discardPartial _ _) (C.countError _ _))⟩
  · exact ⟨_, rfl, C.of (C.setRx _ _ _)⟩

theorem of_channelCommand (C : EventClosed R E) {f : Chn → State → State} (h : ∀ c s, E s (f c s)) (c : Nat) (s : State) :
    Leaves E s (match chnOf c with | some c => .next (f c s) | none => .next s) := by
  cases chnOf c with
  | none => exact ⟨_, rfl, C.still s⟩
  | some c => exact ⟨_, rfl, h c s⟩

theorem of_deadline (C : EventClosed R E) (e : Nat) (s : State) : Leaves E s (execDeadline e s) := by
  unfold execDeadline
  split
  · exact ⟨_, rfl, C.of_deadlineEvent _ s⟩
  · exact ⟨_, rfl, C.still s⟩

theorem of_runComplete (C : EventClosed R E) (s : State) : Leaves E s (execRunComplete s) := by
  unfold execRunComplete
  split
  · exact ⟨_, rfl, C.settled (C.of_runCompleted _ _)⟩
  · exact ⟨_, rfl, C.still s⟩

theorem of_touchReadNack (C : EventClosed R E) (s : State) : Leaves E s (execTouchReadNack s) := by
  unfold execTouchReadNack
  split
  · exact ⟨_, rfl, C.settled (C.of_readFailed _)⟩
  · exact ⟨_, rfl, C.still s⟩

theorem of_touchReadComplete (C : EventClosed R E) (report : List Byte) (s : State) :
    Leaves E s (execTouchReadComplete report s) := by
  unfold execTouchReadComplete
  split
  · split
    · exact ⟨_, rfl, C.settled (C.of_readGood _ _)⟩
    · exact ⟨_, rfl, C.settled (C.of_readFailed _)⟩
  · exact ⟨_, rfl, C.still s⟩

/-- Every command but the power-on reset and the tick is an event of the part. -/
theorem of_exec (C : EventClosed R E) (i : Instr) (s : State) (reset : i ≠ .powerOnReset) (tick : i ≠ .timeBaseTick) :
    Leaves E s (exec i s) := by
  cases i with
  | powerOnReset => exact absurd rfl reset
  | timeBaseTick => exact absurd rfl tick
  | frameHeader p b => exact C.of_frameHeader p b s
  | unknownTypeDiscard p b => exact C.of_unknownType p b s
  | lengthOverrunDiscard p b => exact C.of_lengthOverrun p b s
  | crcMismatch p b => exact C.of_crcMismatch p b s
  | interByteTimeout p => exact ⟨_, rfl, C.of_interByteEvent p s⟩
  | framingError => exact C.of_framingError s
  | ctsChange a l => exact ⟨_, rfl, C.of (C.setRadio _ _)⟩
  | hello p b => exact C.of_hello p b s
  | request p b => exact ⟨_, rfl, C.of_typedFrame _ p b (C.of_takeRequest p) s⟩
  | post p b => exact ⟨_, rfl, C.of_typedFrame _ p b (C.of_takePost p) s⟩
  | reply p b => exact ⟨_, rfl, C.of_typedFrame _ p b (C.of_takeReply p) s⟩
  | extend p b => exact ⟨_, rfl, C.of_typedFrame _ p b (C.of_takeExtend p) s⟩
  | cancel p b => exact ⟨_, rfl, C.of_typedFrame _ p b (C.of_takeCancel p) s⟩
  | drawWindow p b => exact ⟨_, rfl, C.of_typedFrame _ p b (C.of_takeDrawWindow p) s⟩
  | drawPixels p b => exact ⟨_, rfl, C.of_typedFrame _ p b (C.of_takeDrawPixels p) s⟩
  | unknownRequest p b => exact C.of_unknownRequest p b s
  | queryLink p b => exact C.of_ctlCommand .queryLink p b s
  | queryChannel p b => exact C.of_ctlCommand .queryChannel p b s
  | querySession p b => exact C.of_ctlCommand .querySession p b s
  | queryNotices p b => exact C.of_ctlCommand .queryNotices p b s
  | setNoticeMask p b => exact C.of_ctlCommand .setNoticeMask p b s
  | hold p b => exact C.of_ctlCommand .hold p b s
  | release p b => exact C.of_ctlCommand .release p b s
  | setBar p b => exact C.of_ctlCommand .setBar p b s
  | clearBar p b => exact C.of_ctlCommand .clearBar p b s
  | writeChannel p b => exact C.of_ctlCommand .writeChannel p b s
  | removeChannel p b => exact C.of_ctlCommand .removeChannel p b s
  | writeSettings p b => exact C.of_ctlCommand .writeSettings p b s
  | copyArea p b => exact C.of_ctlCommand .copyArea p b s
  | activate p b => exact C.of_ctlCommand .activate p b s
  | fullClear p b => exact C.of_ctlCommand .fullClear p b s
  | openSession p b => exact C.of_ctlCommand .openSession p b s
  | closeSession p b => exact C.of_ctlCommand .closeSession p b s
  | touchRestart p b => exact C.of_ctlCommand .touchRestart p b s
  | transmissionComplete p => exact ⟨_, rfl, C.settledIf (C.of_endTx _ _ _)⟩
  | gapWaitEnd c => exact C.of_channelCommand C.of_gapEvent c s
  | lastForwardTimeExpiry c => exact C.of_channelCommand C.of_lastForwardEvent c s
  | refill c => exact C.of_channelCommand C.of_refillEvent c s
  | deadline e => exact C.of_deadline e s
  | stall p => exact ⟨_, rfl, C.of_stallEvent p s⟩
  | sessionLimitExpiry => exact ⟨_, rfl, C.of_limitEvent s⟩
  | runComplete => exact C.of_runComplete s
  | attentionAssert => exact ⟨_, rfl, C.of (C.setTouch _ _)⟩
  | touchReadNack => exact C.of_touchReadNack s
  | touchReadComplete report => exact C.of_touchReadComplete report s
  | attentionRelease => exact ⟨_, rfl, C.of (C.setTouch _ _)⟩
  | controlMalformed p b => exact C.of_controlMalformed p b s
  | receiveAssemblyByte p b => exact C.of_receiveByte p b s

end EventClosed

end Sys2Proof.Proofs
end

section
/-! What every command keeps: the queue of commands and the time base (R22), and the message buffer with the ready lines and the
stall timers (R37, R38, R154, R168). -/

namespace Sys2Proof.Proofs

open Sys2Proof Sys2Proof.Machine Sys2Proof.Safety

/-! ## The queue of commands and the time base -/

theorem Granted.steady {s t : State} (h : Granted s t) : Steady s t := ⟨h.pending, h.time⟩

/-- No event moves the time base or the queue of commands. -/
theorem steady_closed : EventClosed Steady Steady where
  refl := Steady.refl
  trans := Steady.trans
  setChan _ _ _ := ⟨rfl, rfl⟩
  setEntry _ _ _ := ⟨rfl, rfl⟩
  setNotice _ _ _ := ⟨rfl, rfl⟩
  setParts _ _ _ := ⟨rfl, rfl⟩
  setPointers _ _ _ _ := ⟨rfl, rfl⟩
  setSource _ _ _ := ⟨rfl, rfl⟩
  release _ _ _ := ⟨rfl, rfl⟩
  setPolicy := Steady.setPolicy
  setSession := Steady.setSession
  setDraw _ _ _ := ⟨rfl, rfl⟩
  setRun := Steady.setRun
  setTouch := Steady.setTouch
  setRadio _ _ := ⟨rfl, rfl⟩
  setRx _ _ _ := ⟨rfl, rfl⟩
  setState _ _ _ := ⟨rfl, rfl⟩
  countError _ _ := ⟨rfl, rfl⟩
  freeReserve _ _ := ⟨rfl, rfl⟩
  holdFrame s p ty n := (holdFrame_traffic p ty n s).steady
  startTx s p ty body src := Granted.steady (startTx_granted p ty body src s)
  clearTx s p := (clearTx_traffic p s).steady
  of := id
  andThen := Steady.trans
  byteEvent h p s := byteEvent_steady p h s

/-- The tick takes what is due, and then the time base moves (R22). -/
theorem exec_tick (s : State) :
    exec .timeBaseTick s = .next ((settleRx (takeDue s)).setTime ((settleRx (takeDue s)).time + 1#32)) := rfl

/-- Settles O2: every event is steady, the reset and the tick write the time themselves. -/
theorem commandsKeepQueueAndTime : Obligations.CommandsKeepQueueAndTime := by
  unfold Obligations.CommandsKeepQueueAndTime
  intro i s
  by_cases reset : i = .powerOnReset
  · subst reset
    exact ⟨_, rfl, rfl, nofun, fun _ => rfl, fun _ h => absurd rfl h⟩
  · by_cases tick : i = .timeBaseTick
    · subst tick
      have due : Steady s (settleRx (takeDue s)) :=
        (steady_closed.of_takeDue s).trans (steady_closed.of_settleRx _)
      refine ⟨_, exec_tick s, ?_, fun _ => ?_, nofun, fun h => absurd rfl h⟩
      · rw [State.setTime_pending, due.pending]
      · rw [State.setTime_time, due.time]
    · obtain ⟨t, ht, steady⟩ := steady_closed.of_exec i s reset tick
      exact ⟨t, ht, steady.pending, fun h => absurd h tick, fun h => absurd h reset, fun _ _ => steady.time⟩

/-! ## The message buffer and the frames in transmission -/

/-- The link of `p` transmits what it did, as far as before. -/
structure WireKept (s t : State) (p : Port) : Prop where
  sending : ((t.arb p).tx.map fun x => (x.body.length, x.sent)) = (s.arb p).tx.map fun x => (x.body.length, x.sent)
  ready : (t.link p).ready = (s.link p).ready
  stall : (t.link p).stall = (s.link p).stall

/-- The link of `p` transmits nothing, or a frame none of whose bytes has been clocked, with the ready line and the stall timer as
they should be (R154, R168). -/
structure WireFresh (t : State) (p : Port) : Prop where
  sending : ∀ x, (t.arb p).tx = some x → x.sent = 0
  ready : (t.link p).ready = (p != .rd && (t.arb p).tx.isSome)
  stall : (t.link p).stall.isSome = (t.arb p).tx.isSome

/-- From `s` to `t` no charge has passed its quota, no reserve its two blocks and no error count its top, and no link is left with a
frame half sent that it did not have. -/
structure Buffered (s t : State) : Prop where
  charged : ∀ p, t.chargedTo p ≤ max (s.chargedTo p) (blockQuota p)
  reserve : ∀ p, (t.link p).reserve ≤ max (s.link p).reserve reserveBlocks
  errors : ∀ p, (t.link p).errors ≤ max (s.link p).errors errorLimit
  wire : ∀ p, WireKept s t p ∨ WireFresh t p

theorem WireKept.refl (s : State) (p : Port) : WireKept s s p := ⟨rfl, rfl, rfl⟩

theorem WireKept.trans {s t u : State} {p : Port} (h : WireKept s t p) (k : WireKept t u p) : WireKept s u p :=
  ⟨k.sending.trans h.sending, k.ready.trans h.ready, k.stall.trans h.stall⟩

theorem WireKept.isSome {s t : State} {p : Port} (h : WireKept s t p) : (t.arb p).tx.isSome = (s.arb p).tx.isSome := by
  simpa using congrArg Option.isSome h.sending

theorem WireKept.sent {s t : State} {p : Port} (h : WireKept s t p) {x : Tx} (hx : (t.arb p).tx = some x) :
    ∃ y, (s.arb p).tx = some y ∧ y.body.length = x.body.length ∧ y.sent = x.sent := by
  have := h.sending
  rw [hx] at this
  cases hy : (s.arb p).tx with
  | none => rw [hy] at this; cases this
  | some y =>
    rw [hy] at this
    simp only [Option.map_some, Option.some.injEq, Prod.mk.injEq] at this
    exact ⟨y, rfl, this.1.symm, this.2.symm⟩

theorem WireFresh.kept {t u : State} {p : Port} (h : WireFresh t p) (k : WireKept t u p) : WireFresh u p where
  sending x hx := by
    obtain ⟨y, hy, -, hs⟩ := k.sent hx
    rw [← hs, h.sending y hy]
  ready := by rw [k.ready, h.ready, k.isSome]
  stall := by rw [k.stall, h.stall, k.isSome]

theorem Buffered.refl (s : State) : Buffered s s :=
  ⟨fun _ => Nat.le_max_left _ _, fun _ => Nat.le_max_left _ _, fun _ => Nat.le_max_left _ _, fun p => .inl (.refl s p)⟩

theorem Buffered.trans {s t u : State} (h : Buffered s t) (k : Buffered t u) : Buffered s u where
  charged p := by have := h.charged p; have := k.charged p; omega
  reserve p := by have := h.reserve p; have := k.reserve p; omega
  errors p := by have := h.errors p; have := k.errors p; omega
  wire p := by
    rcases k.wire p with kept | fresh
    · rcases h.wire p with kept' | fresh
      · exact .inl (kept'.trans kept)
      · exact .inr (fresh.kept kept)
    · exact .inr fresh

/-- A write elsewhere than to the links, the charges and the arbiters. -/
theorem Buffered.of_same {s t : State} (links : t.links = s.links) (charged : t.charged = s.charged) (arbs : t.arbs = s.arbs) :
    Buffered s t := by
  have link : ∀ p, t.link p = s.link p := fun p => by simp only [State.link, links]
  refine ⟨fun p => ?_, fun p => ?_, fun p => ?_, fun p => .inl ⟨?_, ?_, ?_⟩⟩
  · simp only [State.chargedTo, charged]; exact Nat.le_max_left _ _
  · rw [link]; exact Nat.le_max_left _ _
  · rw [link]; exact Nat.le_max_left _ _
  · simp only [State.arb, arbs]
  · rw [link]
  · rw [link]

/-- A write to one arbiter that leaves the frame in transmission and how far it has come. -/
theorem Buffered.setArb (s : State) (p : Port) (v : Arbiter)
    (h : (v.tx.map fun x => (x.body.length, x.sent)) = (s.arb p).tx.map fun x => (x.body.length, x.sent)) :
    Buffered s (s.setArb p v) where
  charged _ := Nat.le_max_left _ _
  reserve _ := Nat.le_max_left _ _
  errors _ := Nat.le_max_left _ _
  wire q := by
    refine .inl ⟨?_, rfl, rfl⟩
    rw [State.setArb_arb]
    split
    · rename_i hq; rw [hq, h]
    · rfl

/-- A write to one link unit that leaves its ready line and its stall timer, and keeps within its counts. -/
theorem Buffered.setLink (s : State) (p : Port) (v : Link) (reserve : v.reserve ≤ max (s.link p).reserve reserveBlocks)
    (errors : v.errors ≤ max (s.link p).errors errorLimit) (ready : v.ready = (s.link p).ready)
    (stall : v.stall = (s.link p).stall) : Buffered s (s.setLink p v) where
  charged _ := Nat.le_max_left _ _
  reserve q := by
    rw [State.setLink_link]
    split
    · rename_i hq; rw [hq]; exact reserve
    · exact Nat.le_max_left _ _
  errors q := by
    rw [State.setLink_link]
    split
    · rename_i hq; rw [hq]; exact errors
    · exact Nat.le_max_left _ _
  wire q := by
    refine .inl ⟨rfl, ?_, ?_⟩ <;> rw [State.setLink_link] <;> split
    · rename_i hq; rw [hq]; exact ready
    · rfl
    · rename_i hq; rw [hq]; exact stall
    · rfl

/-- A charge that stays within the quota, or falls. -/
theorem Buffered.setCharged (s : State) (p : Port) (n : Nat) (h : n ≤ max (s.chargedTo p) (blockQuota p)) :
    Buffered s (s.setCharged p n) where
  charged q := by
    rw [State.setCharged_chargedTo]
    split
    · rename_i hq; rw [hq]; exact h
    · exact Nat.le_max_left _ _
  reserve _ := Nat.le_max_left _ _
  errors _ := Nat.le_max_left _ _
  wire q := .inl ⟨rfl, rfl, rfl⟩

/-- A header takes blocks or a reserve block only where they are free (R37, R38). -/
theorem holdFrame_buffered (p : Port) (ty : FrameType) (n : Nat) (s : State) : Buffered s (holdFrame p ty n s).2 := by
  unfold holdFrame
  split
  · split
    · rename_i free
      refine Buffered.setCharged s p _ ?_
      simp only [freeBlocks] at free
      have : 1 ≤ blocksOf n := Nat.le_max_left _ _
      omega
    · split
      · rename_i free
        exact Buffered.setLink s p _ (by dsimp only; omega) (Nat.le_max_left _ _) rfl rfl
      · exact Buffered.setLink s p _ (Nat.le_max_left _ _) (by dsimp only; omega) rfl rfl
  · exact Buffered.refl s

/-- Starting or ending a transmission leaves the link of `p` with nothing half sent, and every other link as it was. -/
theorem Buffered.of_wire (s : State) (p : Port) {t : State} (charged : t.charged = s.charged)
    (reserve : (t.link p).reserve = (s.link p).reserve) (errors : (t.link p).errors = (s.link p).errors)
    (fresh : WireFresh t p) (links : ∀ q, q ≠ p → t.link q = s.link q) (arbs : ∀ q, q ≠ p → t.arb q = s.arb q) :
    Buffered s t where
  charged q := by simp [State.chargedTo, charged]
  reserve q := by
    by_cases hq : q = p
    · rw [hq, reserve]; exact Nat.le_max_left _ _
    · rw [links q hq]; exact Nat.le_max_left _ _
  errors q := by
    by_cases hq : q = p
    · rw [hq, errors]; exact Nat.le_max_left _ _
    · rw [links q hq]; exact Nat.le_max_left _ _
  wire q := by
    by_cases hq : q = p
    · exact .inr (hq ▸ fresh)
    · exact .inl ⟨by rw [arbs q hq], by rw [links q hq], by rw [links q hq]⟩

theorem startTx_fresh (p : Port) (ty : Byte) (body : List Byte) (src : TxSource) (s : State) :
    WireFresh (startTx p ty body src s) p := by
  cases p <;> exact ⟨fun x hx => by cases hx; rfl, rfl, rfl⟩

theorem startTx_buffered (p : Port) (ty : Byte) (body : List Byte) (src : TxSource) (s : State) :
    Buffered s (startTx p ty body src s) := by
  refine Buffered.of_wire s p (startTx_granted p ty body src s).charged ?_ ?_ (startTx_fresh p ty body src s) ?_ ?_
  · cases p <;> rfl
  · cases p <;> rfl
  · intro q hq
    cases p <;> cases q <;> first | rfl | exact absurd rfl hq
  · intro q hq
    cases p <;> cases q <;> first | rfl | exact absurd rfl hq

theorem clearTx_fresh (p : Port) (s : State) : WireFresh (clearTx p s) p := by
  cases p <;> exact ⟨nofun, rfl, rfl⟩

theorem clearTx_link (p q : Port) (s : State) :
    (clearTx p s).link q = if q = p then { s.link p with stall := none, ready := false } else s.link q :=
  State.setLink_link _ _ _ _

theorem clearTx_arb (p q : Port) (s : State) :
    (clearTx p s).arb q = if q = p then { s.arb p with tx := none } else s.arb q := State.setArb_arb _ _ _ _

theorem clearTx_buffered (p : Port) (s : State) : Buffered s (clearTx p s) :=
  Buffered.of_wire s p rfl (by simp [clearTx_link]) (by simp [clearTx_link]) (clearTx_fresh p s)
    (fun q hq => by rw [clearTx_link, if_neg hq]) (fun q hq => by rw [clearTx_arb, if_neg hq])

/-- The message buffer is as `BufferOk` asks, but that a link may have clocked out the last byte of its frame, where `P` does not
ask otherwise. -/
structure BufferOkOn (P : Port → Prop) (s : State) : Prop where
  charged : ∀ p, s.chargedTo p ≤ blockQuota p
  reserve : ∀ p, (s.link p).reserve ≤ reserveBlocks
  errors : ∀ p, (s.link p).errors ≤ errorLimit
  sending : ∀ p t, P p → p ≠ .rd → (s.arb p).tx = some t → t.sent < t.body.length + 6
  ready : ∀ p, (s.link p).ready = (p != .rd && (s.arb p).tx.isSome)
  stall : ∀ p, (s.link p).stall.isSome = (s.arb p).tx.isSome

theorem BufferOkOn.ok {P : Port → Prop} {s : State} (h : BufferOkOn P s)
    (k : ∀ p t, ¬ P p → p ≠ .rd → (s.arb p).tx = some t → t.sent < t.body.length + 6) : BufferOk s where
  charged := h.charged
  reserve := h.reserve
  errors := h.errors
  sending p t hp ht := by
    by_cases hP : P p
    · exact h.sending p t hP hp ht
    · exact k p t hP hp ht
  ready := h.ready
  stall := h.stall

theorem bufferOkOn_of (P : Port → Prop) {s : State} (h : BufferOk s) : BufferOkOn P s :=
  ⟨h.charged, h.reserve, h.errors, fun p t _ => h.sending p t, h.ready, h.stall⟩

theorem BufferOkOn.step {P : Port → Prop} {s t : State} (h : BufferOkOn P s) (k : Buffered s t) : BufferOkOn P t where
  charged p := by have := h.charged p; have := k.charged p; omega
  reserve p := by have := h.reserve p; have := k.reserve p; omega
  errors p := by have := h.errors p; have := k.errors p; omega
  sending p x hP hp hx := by
    rcases k.wire p with kept | fresh
    · obtain ⟨y, hy, hb, hs⟩ := kept.sent hx
      rw [← hb, ← hs]
      exact h.sending p y hP hp hy
    · rw [fresh.sending x hx]
      omega
  ready p := by
    rcases k.wire p with kept | fresh
    · rw [kept.ready, h.ready, kept.isSome]
    · exact fresh.ready
  stall p := by
    rcases k.wire p with kept | fresh
    · rw [kept.stall, h.stall, kept.isSome]
    · exact fresh.stall

theorem bufferOk_step {s t : State} (h : BufferOk s) (k : Buffered s t) : BufferOk t :=
  ((bufferOkOn_of (fun _ => True) h).step k).ok fun _ _ f => absurd trivial f

/-- On the link that `P` does not ask of, a frame in transmission may be as far as it likes. -/
theorem BufferOkOn.setTx {p : Port} {s : State} {v : Arbiter} (h : BufferOkOn (· ≠ p) s) (was : (s.arb p).tx.isSome = true)
    (is : v.tx.isSome = true) : BufferOkOn (· ≠ p) (s.setArb p v) := by
  have same : ∀ q, ((s.setArb p v).arb q).tx.isSome = (s.arb q).tx.isSome := by
    intro q
    rw [State.setArb_arb]
    split
    · rename_i hq; rw [hq, was, is]
    · rfl
  refine ⟨h.charged, h.reserve, h.errors, fun q x hq hrd hx => ?_, fun q => ?_, fun q => ?_⟩
  · rw [State.setArb_arb, if_neg hq] at hx
    exact h.sending q x hq hrd hx
  · rw [same]; exact h.ready q
  · rw [same]; exact h.stall q

/-- A byte clocked on the link of `p` can bring only that link to the last byte of its frame (R154). -/
theorem clockOut_bufferOkOn (p : Port) {s : State} (h : BufferOk s) : BufferOkOn (· ≠ p) (clockOut p s) := by
  have out : ∀ d, BufferOkOn (· ≠ p) (s.setLink p { s.link p with dataOut := d }) := fun d =>
    (bufferOkOn_of _ h).step (Buffered.setLink s p _ (Nat.le_max_left _ _) (Nat.le_max_left _ _) rfl rfl)
  unfold clockOut
  split
  · exact bufferOkOn_of _ h
  · split
    · rename_i t ht
      dsimp only
      split
      · exact (out _).setTx (by rw [State.setLink_arb, ht]; rfl) rfl
      · exact out _
    · exact out _

/-- The end of a transmission leaves nothing in transmission on the link of `p`. -/
theorem BufferOkOn.clearTx {p : Port} {s : State} (h : BufferOkOn (· ≠ p) s) : BufferOk (clearTx p s) :=
  (h.step (clearTx_buffered p s)).ok fun q t hq _ ht => by
    rw [clearTx_arb, if_pos (not_not.mp hq)] at ht
    cases ht

theorem endTx_bufferOk {p : Port} (done : Bool) {s : State} (C : PartClosed Buffered) (h : BufferOkOn (· ≠ p) s) :
    BufferOk (endTx p done s) := by
  unfold endTx
  split
  · exact bufferOk_step h.clearTx (C.of_txEnded _ _ _ _)
  · rename_i free
    exact h.ok fun q t hq _ ht => by rw [not_not.mp hq, free] at ht; cases ht

theorem buffered_closed : PartClosed Buffered where
  refl := Buffered.refl
  trans := Buffered.trans
  setChan _ _ _ := .of_same rfl rfl rfl
  setEntry _ _ _ := .of_same rfl rfl rfl
  setNotice _ _ _ := .of_same rfl rfl rfl
  setParts s p _ := .setArb s p _ rfl
  setPointers s p _ _ := .setArb s p _ rfl
  setSource s p _ := .setArb s p _ (by cases (s.arb p).tx <;> rfl)
  release s p n := .setCharged s p _ (by omega)
  setPolicy _ _ := .of_same rfl rfl rfl
  setSession _ _ := .of_same rfl rfl rfl
  setDraw _ _ _ := .of_same rfl rfl rfl
  setRun _ _ := .of_same rfl rfl rfl
  setTouch _ _ := .of_same rfl rfl rfl
  setRadio _ _ := .of_same rfl rfl rfl
  setRx s p _ := .setLink s p _ (Nat.le_max_left _ _) (Nat.le_max_left _ _) rfl rfl
  setState s p _ := .setLink s p _ (Nat.le_max_left _ _) (Nat.le_max_left _ _) rfl rfl
  countError s p := .setLink s p _ (Nat.le_max_left _ _) (by dsimp only; omega) rfl rfl
  freeReserve s p := .setLink s p _ (by dsimp only; omega) (Nat.le_max_left _ _) rfl rfl
  holdFrame s p ty n := holdFrame_buffered p ty n s
  startTx s p ty body src := startTx_buffered p ty body src s
  clearTx s p := clearTx_buffered p s

/-- The event of a byte completes a frame that the byte has clocked out whole (R154). -/
theorem byteEvent_bufferOk {k : State → State} (h : ∀ s, Buffered s (k s)) (p : Port) (s : State) (ok : BufferOk s) :
    BufferOk (byteEvent p k s) := by
  have settled : BufferOkOn (· ≠ p) (settle (k (clockOut p s))) :=
    (clockOut_bufferOkOn p ok).step ((h _).trans (buffered_closed.of_settle _))
  unfold byteEvent
  rcases byteEnd_cases p (k (clockOut p s)) with ⟨eq, out⟩ | ⟨eq, -⟩ <;> rw [eq]
  · refine settled.ok fun q t hq hrd ht => ?_
    obtain rfl := not_not.mp hq
    simp only [clockedOut, ht, wireLength, Bool.and_eq_false_iff] at out
    exact Nat.not_le.mp (of_decide_eq_false (out.resolve_left (by simpa using hrd)))
  · exact bufferOk_step (endTx_bufferOk true buffered_closed settled) (buffered_closed.of_settle _)

/-- No event passes the quotas, or leaves a link with a frame that it has sent whole. -/
theorem buffer_closed : EventClosed Buffered (fun s t => BufferOk s → BufferOk t) where
  toPartClosed := buffered_closed
  of h ok := bufferOk_step ok h
  andThen h k ok := k (h ok)
  byteEvent := byteEvent_bufferOk

theorem bufferOk_reset : BufferOk State.reset := by
  refine ⟨fun p => ?_, fun p => ?_, fun p => ?_, fun p t _ ht => ?_, fun p => ?_, fun p => ?_⟩ <;> cases p
  all_goals first | rfl | exact Nat.zero_le _ | cases ht

/-- Settles O6: every event keeps the buffer in order, and the reset and the tick do. -/
theorem stepKeepsBuffer : Obligations.StepKeepsBuffer := by
  unfold Obligations.StepKeepsBuffer
  intro s t ok step
  have moved : ∀ i u, BufferOk u → exec i u = .next t → BufferOk t := by
    intro i u ok step
    by_cases reset : i = .powerOnReset
    · subst reset
      cases step
      exact bufferOk_step bufferOk_reset (.of_same rfl rfl rfl)
    · by_cases tick : i = .timeBaseTick
      · subst tick
        obtain rfl := Host.Outcome.next.inj ((exec_tick u).symm.trans step)
        have due := buffer_closed.of_settleRx _ (buffer_closed.of_takeDue u ok)
        exact bufferOk_step due (.of_same (State.setTime_links _ _) (State.setTime_charged _ _) (State.setTime_arbs _ _))
      · obtain ⟨v, hv, kept⟩ := buffer_closed.of_exec i u reset tick
        rw [hv] at step
        cases step
        exact kept ok
  unfold Machine.step at step
  split at step
  · cases step
    exact ok
  · rename_i i rest _
    exact moved i { s with pending := rest } (bufferOk_step ok (.of_same rfl rfl rfl)) step

end Sys2Proof.Proofs
end

section
/-! Timers and the tick (R22, R23, R31, R34, R35), and what the quotas add up to (R41, R44). -/

namespace Sys2Proof.Proofs

open Sys2Proof Sys2Proof.Machine Sys2Proof.Safety

/-! ## The timers of a channel number -/

theorem chnOf_number (c : Chn) : chnOf (c.val + 1) = some c := by
  unfold chnOf
  rw [dif_pos (by omega)]
  simp

theorem entryOf_index (e : EntryIx) : entryOf e.val = some e := dif_pos e.isLt

theorem exec_refill (c : Chn) (s : State) : exec (.refill (c.val + 1)) s = .next (refillEvent c s) := by
  simp only [exec, execRefill, chnOf_number]

theorem exec_lastForwardTimeExpiry (c : Chn) (s : State) :
    exec (.lastForwardTimeExpiry (c.val + 1)) s = .next (lastForwardEvent c s) := by
  simp only [exec, execLastForwardTimeExpiry, chnOf_number]

theorem exec_gapWaitEnd (c : Chn) (s : State) : exec (.gapWaitEnd (c.val + 1)) s = .next (gapEvent c s) := by
  simp only [exec, execGapWaitEnd, chnOf_number]

theorem exec_deadline (e : EntryIx) (s : State) : exec (.deadline e.val) s = .next (deadlineEvent e s) := by
  simp only [exec, execDeadline, entryOf_index]

/-- Settles O53: each timer's event, at its millisecond. -/
theorem channelTimers : Obligations.ChannelTimers := by
  unfold Obligations.ChannelTimers
  intro c s
  refine ⟨fun r t hr ht now => ?_, fun t ht now => ?_, fun r hr ht => ?_⟩
  · rw [exec_gapWaitEnd]
    have reached : s.time = after t r.gap := now
    simp only [gapEvent, hr, ht, if_pos reached]
  · rw [exec_lastForwardTimeExpiry]
    have reached : s.time = after t lastForwardLife := now
    simp only [lastForwardEvent, ht, if_pos reached]
  · rw [exec_refill]
    simp only [refillEvent, hr, ht, if_true, after]

/-! ## The tick -/

/-- The commands of the timed events lead to the state in which all of them have been taken. -/
theorem takeDue_leads (s : State) : Leads dueCommands s (takeDue s) := by
  refine leads_append (leads_append (leads_append (leads_append (leads_append (leads_append
    (leads_foldl Instr.interByteTimeout (fun s p => interByteEvent p s) (fun _ _ => rfl) allPorts s)
    (leads_foldl Instr.stall (fun s p => stallEvent p s) (fun _ _ => rfl) allPorts _))
    (leads_foldl _ (fun s c => refillEvent c s) (fun s c => exec_refill c s) allChns _))
    (leads_foldl _ (fun s c => lastForwardEvent c s) (fun s c => exec_lastForwardTimeExpiry c s) allChns _))
    (leads_foldl _ (fun s e => deadlineEvent e s) (fun s e => exec_deadline e s) allEntries _))
    ⟨limitEvent _, rfl, rfl⟩)
    (leads_foldl _ (fun s c => gapEvent c s) (fun s c => exec_gapWaitEnd c s) allChns _)

theorem rxOf_setRx (p q : Port) (v : Rx) (s : State) : rxOf (setRx p v s) q = if q = p then v else rxOf s q := by
  unfold rxOf setRx
  rw [State.setLink_link]
  split <;> rfl

/-- At the end of the millisecond no link knows a frame that lacked its second CRC byte at a stall (R170). -/
theorem rxOf_settleRx (s : State) (p : Port) : rxOf (settleRx s) p = (rxOf s p).settled := by
  unfold settleRx
  simp only [allPorts, List.foldl_cons, List.foldl_nil, rxOf_setRx]
  cases p <;> rfl

theorem settled_of_not_late {v : Rx} (h : ∀ f hi, v ≠ .late f hi) : v.settled = v := by
  cases v with
  | late f hi => exact absurd rfl (h f hi)
  | _ => rfl

theorem setRx_self (p : Port) (s : State) : setRx p (rxOf s p) s = s := State.setLink_self s p

theorem settleRx_of_not_late {s : State} (h : ∀ p f hi, rxOf s p ≠ .late f hi) : settleRx s = s := by
  unfold settleRx
  refine List.foldl_fixed' (fun p => ?_) allPorts
  rw [settled_of_not_late (h p), setRx_self]

/-- Where nothing is due, none of the timed events takes place (R23). -/
theorem takeDue_of_nothing {s : State} (stall : ∀ p, (s.link p).stall ≠ some s.time)
    (seen : ∀ p t, lastSeen (rxOf s p) = some t → s.time ≠ t + 21#32)
    (refill : ∀ c, (s.chan c).refillAt ≠ some s.time)
    (forward : ∀ c t, (s.chan c).lastForward = some t → s.time ≠ t + 255#32)
    (gap : ∀ c t, (s.chan c).lastForward = some t → ∀ r, recordOf s c = some r → s.time ≠ t + BitVec.ofNat 32 r.gap)
    (deadline : ∀ e, (s.entry e).deadline ≠ some s.time) (limit : s.session.limitAt ≠ some s.time) : takeDue s = s := by
  have interByteEvents : allPorts.foldl (fun s p => interByteEvent p s) s = s := by
    refine List.foldl_fixed' (fun p => ?_) _
    unfold interByteEvent rxTimedOut
    cases h : lastSeen (rxOf s p) with
    | none => simp
    | some t =>
      have notYet : s.time ≠ after t interByteLimit := seen p t h
      simp [notYet]
  have stallEvents : allPorts.foldl (fun s p => stallEvent p s) s = s :=
    List.foldl_fixed' (fun p => if_neg (stall p)) _
  have refillEvents : allChns.foldl (fun s c => refillEvent c s) s = s := by
    refine List.foldl_fixed' (fun c => ?_) _
    unfold refillEvent
    split
    · rename_i t _ ht
      exact if_neg fun now => refill c (ht.trans (congrArg some now.symm))
    · rfl
  have lastForwardEvents : allChns.foldl (fun s c => lastForwardEvent c s) s = s := by
    refine List.foldl_fixed' (fun c => ?_) _
    unfold lastForwardEvent
    split
    · rename_i t ht
      exact if_neg (forward c t ht)
    · rfl
  have deadlineEvents : allEntries.foldl (fun s e => deadlineEvent e s) s = s :=
    List.foldl_fixed' (fun e => if_neg fun h => deadline e h.2) _
  have limitEvents : limitEvent s = s := if_neg fun h => limit h.2
  have gapEvents : allChns.foldl (fun s c => gapEvent c s) s = s := by
    refine List.foldl_fixed' (fun c => ?_) _
    unfold gapEvent
    split
    · rename_i r t hr ht
      exact if_neg (gap c t ht r hr)
    · rfl
  unfold takeDue
  dsimp only
  rw [interByteEvents, stallEvents, refillEvents, lastForwardEvents, deadlineEvents, limitEvents, gapEvents]

/-- Settles O60: the tick takes the due commands in order, and then the time moves by 1. -/
theorem tickAdvancesTime : Obligations.TickAdvancesTime := by
  unfold Obligations.TickAdvancesTime
  refine ⟨fun s => ⟨takeDue s, takeDue_leads s, ?_⟩, fun s p => ⟨fun h => ?_, fun f hi h => ?_⟩, ?_⟩
  · have due : Steady s (settleRx (takeDue s)) := (steady_closed.of_takeDue s).trans (steady_closed.of_settleRx _)
    rw [exec_tick, due.time]
    rfl
  · rw [rxOf_settleRx, settled_of_not_late h]
  · rw [rxOf_settleRx, h]
    rfl
  · intro s links chans entries limit
    have due : takeDue s = s :=
      takeDue_of_nothing (fun p => (links p).1) (fun p => (links p).2.2) (fun c => (chans c).1)
        (fun c t ht => ((chans c).2 t ht).1) (fun c t ht => ((chans c).2 t ht).2) entries limit
    rw [exec_tick, due, settleRx_of_not_late fun p => (links p).2.1]
    rfl

/-! ## The quotas -/

/-- The live entries are the entries held by the three requesters (R44). -/
theorem length_live (s : State) :
    (allEntries.filter (live s)).length = heldBy s .ad + heldBy s .pd + heldBy s .rd := by
  unfold heldBy
  induction allEntries with
  | nil => rfl
  | cons e l ih =>
    cases he : live s e
    · simpa [he] using ih
    · cases hr : (s.entry e).requester <;> simp [he, hr, ih] <;> omega

/-- An entry is free where fewer than all 32 are live. -/
theorem lowestFree_isSome {s : State} (h : heldBy s .ad + heldBy s .pd + heldBy s .rd < 32) : ∃ e, lowestFree s = some e := by
  rw [← Option.isSome_iff_exists, lowestFree, List.find?_isSome]
  by_contra none
  push Not at none
  have all : allEntries.filter (live s) = allEntries := List.filter_eq_self.mpr fun e he => by simpa using none e he
  rw [← length_live, all] at h
  simp [allEntries] at h

theorem live_of_lowestFree {s : State} {e : EntryIx} (h : lowestFree s = some e) : live s e = false := by
  simpa using List.find?_some h

/-- Settles O15: 16 touch events, 3 NOTICEs, 32 WITHDRAWs and 6 reserve blocks are 57; the exchange quotas sum to 32. -/
theorem quotasSuffice : Obligations.QuotasSuffice := by
  unfold Obligations.QuotasSuffice
  refine ⟨fun s queues buffer => ?_, fun s p exchanges below => ?_⟩
  · have touchAd : s.touch.queues.ad.length ≤ 8 := queues.touch .ad
    have touchPd : s.touch.queues.pd.length ≤ 8 := queues.touch .pd
    have notices : (allPorts.filter fun p => (s.notice p).st ≠ .none).length ≤ 3 := List.length_filter_le _ _
    have withdraws : (allEntries.filter fun e => (s.entry e).withdraw).length ≤ 32 :=
      (List.length_filter_le _ _).trans (by simp [allEntries])
    have reserve : ∀ p, (s.link p).reserve ≤ 2 := buffer.reserve
    have := reserve .ad
    have := reserve .pd
    have := reserve .rd
    unfold poolInUse
    omega
  · have ad : heldBy s .ad ≤ 10 := exchanges.quota .ad
    have pd : heldBy s .pd ≤ 12 := exchanges.quota .pd
    have rd : heldBy s .rd ≤ 10 := exchanges.quota .rd
    have sum : heldBy s .ad + heldBy s .pd + heldBy s .rd < 32 := by
      cases p <;> simp only [exchangeQuota] at below <;> omega
    obtain ⟨e, he⟩ := lowestFree_isSome sum
    exact ⟨e, he, live_of_lowestFree he⟩

end Sys2Proof.Proofs
end

section
/-! Bytes and headers (R36 to R39, R154, R158, R159), and good frames that are not taken (R38, R39, R160, R170). -/

namespace Sys2Proof.Proofs

open Sys2Proof Sys2Proof.Machine Sys2Proof.Safety

/-! ## A byte is clocked -/

theorem clockOut_time (p : Port) (s : State) : (clockOut p s).time = s.time := (clockOut_traffic p s).time

/-- A byte clocked changes nothing of the link unit of `p` but the byte presented. -/
theorem clockOut_link (p : Port) (s : State) : ∃ d, (clockOut p s).link p = { s.link p with dataOut := d } := by
  rcases clockOut_cases p s with h | ⟨d, tx, h⟩
  · exact ⟨(s.link p).dataOut, by rw [h]⟩
  · exact ⟨d, by rw [h]; simp⟩

theorem clockOut_state (p : Port) (s : State) : ((clockOut p s).link p).state = (s.link p).state := by
  obtain ⟨d, h⟩ := clockOut_link p s
  rw [h]

theorem clockOut_rx (p : Port) (s : State) : rxOf (clockOut p s) p = rxOf s p := by
  obtain ⟨d, h⟩ := clockOut_link p s
  simp only [rxOf, h]

theorem clockOut_reserve (p : Port) (s : State) : ((clockOut p s).link p).reserve = (s.link p).reserve := by
  obtain ⟨d, h⟩ := clockOut_link p s
  rw [h]

theorem clockOut_errors (p : Port) (s : State) : ((clockOut p s).link p).errors = (s.link p).errors := by
  obtain ⟨d, h⟩ := clockOut_link p s
  rw [h]

theorem clockOut_chargedTo (p q : Port) (s : State) : (clockOut p s).chargedTo q = s.chargedTo q := by
  rcases clockOut_cases p s with h | ⟨d, tx, h⟩ <;> rw [h]
  rfl

/-- On an SPI link a byte clocks out the next byte of the frame in transmission (R154). -/
theorem clockOut_sending {p : Port} {s : State} {t : Tx} (hp : p ≠ .rd) (ht : (s.arb p).tx = some t)
    (more : t.sent < t.body.length + 6) :
    clockOut p s =
      (s.setLink p { s.link p with dataOut := byteAt (wireBytes t.ty t.body) t.sent }).setArb p
        { s.arb p with tx := some { t with sent := t.sent + 1 } } := by
  have more' : t.sent < wireLength t.body := more
  simp only [clockOut, if_neg hp, ht, if_pos more', State.setLink_arb]

/-- On an SPI link with nothing in transmission a byte clocks out the filler (R154). -/
theorem clockOut_filler {p : Port} {s : State} (hp : p ≠ .rd) (ht : (s.arb p).tx = none) :
    clockOut p s = s.setLink p { s.link p with dataOut := 0x00#8 } := by
  simp only [clockOut, if_neg hp, ht, fillerByte]

/-- Settles O25: the classes of R158 that complete nothing, one state of receive assembly at a time. -/
theorem assemblyByte : Obligations.AssemblyByte := by
  unfold Obligations.AssemblyByte
  intro p b s
  refine ⟨fun h => ?_, fun h => if_pos h, clockOut_filler, fun hp t => clockOut_sending hp, ?_, ?_, ?_, ?_, ?_⟩
  · simp only [exec, execReceiveAssemblyByte, h, byteEvent, clockOut_time, clockOut_rx]
    rfl
  · rintro (h | ⟨f, hi, h⟩) <;> rw [h] <;> rfl
  · intro seen ty h hty
    simp only [h, assembleNext, hty]
  · intro ty seen h
    rw [h, assembleNext]
  · intro f seen h
    rw [h, assembleNext]
  · intro f seen h
    rw [h]
    refine ⟨fun n hold => ?_, fun hold => ?_⟩
    · simp only [assembleNext, RxFrame.take, hold]
    · rcases hold with hold | hold | hold <;> simp only [assembleNext, RxFrame.take, hold]

/-! ## A header is complete -/

/-- A header as R37 to R39 hold it: `u` is the state with the blocks of the frame held as `h`. -/
theorem exec_frameHeader {p : Port} {b : Byte} {s : State} {ty : FrameType} {lo : Byte} {h : RxHold} {u : State}
    (header : classify (rxOf s p) b = .header ty lo) (held : holdFrame p ty (b ++ lo).toNat (clockOut p s) = (h, u))
    (time : u.time = s.time) :
    exec (.frameHeader p b) s =
      .next (byteEnd p (u.setLink p
        { u.link p with
          rx := (let f : RxFrame :=
                  { ty := ty, len := (b ++ lo).toNat, hold := h, got := 0, body := [], first := none,
                    crc := crcOf [ty.code, lo, b] }
                if (b ++ lo).toNat = 0 then .crc1 f s.time else .body f s.time) })) := by
  simp only [exec, execFrameHeader, header, byteEvent, takeHeader, held, setRx, time]

/-- Settles O26: the three ways in which a frame is held, and the frame on a link that is not UP. -/
theorem frameHeaderHeld : Obligations.FrameHeaderHeld := by
  unfold Obligations.FrameHeaderHeld
  intro p b s ty lo header
  have free : ∀ n, blocksOf n ≤ freeBlocks p (clockOut p s) ↔ max 1 ((n + 63) / 64) + s.chargedTo p ≤ blockQuota p := by
    intro n
    simp only [blocksOf, freeBlocks, clockOut_chargedTo]
    omega
  refine ⟨fun taken => ⟨fun fits => ?_, fun full room => ?_, fun full none => ?_⟩, fun down other => ?_⟩
  · refine exec_frameHeader header (u := (clockOut p s).setCharged p _) ?_ (clockOut_time p s)
    rw [holdFrame, clockOut_state, if_pos taken, if_pos ((free _).mpr fits), charge, clockOut_chargedTo]
    rfl
  · have room : (s.link p).reserve < reserveBlocks := room
    rw [exec_frameHeader header (h := .reserve) (u := takeReserve p (clockOut p s)) ?_ (clockOut_time p s)]
    · simp only [takeReserve, State.setLink_link_self, State.setLink_setLink, clockOut_reserve]
    · rw [holdFrame, clockOut_state, if_pos taken, if_neg (by rw [free]; omega), clockOut_reserve, if_pos room]
  · have none : ¬ (s.link p).reserve < reserveBlocks := Nat.not_lt.mpr none
    rw [exec_frameHeader header (h := .dropped) (u := countError p (clockOut p s)) ?_ (clockOut_time p s)]
    · simp only [countError, State.setLink_link_self, State.setLink_setLink, clockOut_errors, errorLimit]
    · rw [holdFrame, clockOut_state, if_pos taken, if_neg (by rw [free]; omega), clockOut_reserve, if_neg none]
  · refine exec_frameHeader header ?_ (clockOut_time p s)
    rw [holdFrame, clockOut_state, if_neg (by simp [down, other])]

/-! ## Frames that break -/

/-- What a frame held as `h` gives back to `p` in the state `u`, from `n` charged blocks and `r` reserve blocks in use. -/
def givenBack (p : Port) (n r : Nat) (h : RxHold) (u : State) : State :=
  match h with
  | .charged k => u.setCharged p (n - k)
  | .reserve => u.setLink p { u.link p with reserve := r - 1 }
  | .dropped => u
  | .uncharged => u

/-- A frame that is gone and counted: receive assembly in HUNT, and `n` errors. -/
def counted (p : Port) (n : Nat) (u : State) : State :=
  u.setLink p { u.link p with rx := .hunt, errors := min 65535 (n + 1) }

theorem releaseHold_eq (p : Port) (h : RxHold) (u : State) :
    releaseHold p h u = givenBack p (u.chargedTo p) (u.link p).reserve h u := by
  cases h <;> rfl

/-- A broken frame leaves receive assembly, gives back what it holds and is counted, in whichever order (R158). -/
theorem countError_releaseHold (p : Port) (h : RxHold) (u : State) :
    countError p (releaseHold p h (setRx p .hunt u)) =
      counted p (u.link p).errors (givenBack p (u.chargedTo p) (u.link p).reserve h u) := by
  cases h with
  | charged n => cases p <;> rfl
  | reserve => simp [countError, counted, givenBack, releaseHold, freeReserve, setRx, errorLimit]
  | dropped => simp [countError, counted, givenBack, releaseHold, setRx, errorLimit]
  | uncharged => simp [countError, counted, givenBack, releaseHold, setRx, errorLimit]

/-- A partial frame that is discarded and counted (R159). -/
theorem countError_discardPartial (p : Port) (s : State) :
    countError p (discardPartial p s) =
      counted p (s.link p).errors
        (match partialFrame (rxOf s p) with
          | some f => givenBack p (s.chargedTo p) (s.link p).reserve f.hold s
          | none => s) := by
  unfold discardPartial
  cases partialFrame (rxOf s p) with
  | none => simp [countError, counted, setRx, errorLimit]
  | some f =>
    dsimp only
    rw [releaseHold_eq]
    cases f.hold <;> simp [countError, counted, givenBack, setRx, errorLimit]

theorem exec_crcMismatch {p : Port} {b : Byte} {s : State} {f : RxFrame} (h : classify (rxOf s p) b = .crcMismatch f) :
    exec (.crcMismatch p b) s =
      .next (byteEnd p (counted p (s.link p).errors
        (givenBack p (s.chargedTo p) (s.link p).reserve f.hold (clockOut p s)))) := by
  simp only [exec, execCrcMismatch, h, byteEvent, countError_releaseHold, clockOut_errors, clockOut_chargedTo, clockOut_reserve]

/-- Settles O28: the three breaks, and the framing error that finds no frame. -/
theorem brokenFramesReleased : Obligations.BrokenFramesReleased := by
  unfold Obligations.BrokenFramesReleased
  intro p b s
  have partialBack : ∀ q, countError q (discardPartial q s) = _ := fun q => countError_discardPartial q s
  refine ⟨fun f hf => ?_, fun t ht now => ?_, fun t hp ht => ?_, fun h => ?_, fun f hi h => ?_⟩
  · rw [exec_crcMismatch hf]
    refine congrArg (fun u => Host.Outcome.next (byteEnd p (counted p (s.link p).errors u))) ?_
    cases f.hold <;> rfl
  · have timedOut : rxTimedOut s p = true := by
      have reached : s.time = after t interByteLimit := now
      simp [rxTimedOut, ht, reached]
    simp only [exec, execInterByteTimeout, interByteEvent, timedOut, if_true, partialBack]
    refine congrArg (fun u => Host.Outcome.next (settle (counted p (s.link p).errors u))) ?_
    cases partialFrame (rxOf s p) with
    | none => rfl
    | some f => cases hold : f.hold <;> simp only [givenBack, hold]
  · subst hp
    simp only [exec, execFramingError, ht, partialBack]
    refine congrArg (fun u => Host.Outcome.next (settle (counted .rd (s.link .rd).errors u))) ?_
    cases partialFrame (rxOf s .rd) with
    | none => rfl
    | some f => cases hold : f.hold <;> simp only [givenBack, hold]
  · have same : setRx .rd .hunt s = s := by rw [← h, setRx_self]
    simp only [exec, execFramingError, h, lastSeen, Rx.settled, same]
  · simp only [exec, execFramingError, h, lastSeen, Rx.settled, setRx]

/-! ## Good frames that are not taken -/

theorem frameEvent_of_completes {s : State} {p : Port} {b : Byte} {f : RxFrame} {want : RxFrame → Bool}
    (k : RxFrame → State → State) (h : Completes s p b f) (w : want f = true) :
    frameEvent p b want k s = byteEnd p (k f (handed p s)) := by
  unfold Completes at h
  simp only [frameEvent, h, w, if_true, byteEvent, handed]

/-- A command that takes a good frame other than HELLO hands on what its last byte completes, where the body was not stored. -/
theorem exec_handsOn {i : Instr} {p : Port} {b : Byte} {s : State} {f : RxFrame} (bytes : byteOf i = some (p, b))
    (taken : frameTypeTaken i = some f.ty) (good : Completes s p b f) (other : f.ty ≠ .hello)
    (unstored : ∀ n, f.hold ≠ .charged n) :
    ∃ take, exec i s = .next (byteEnd p (handOn p f take (handed p s))) := by
  have control : ∀ want, f.ty = .control → isControl want f = true := by
    intro want ty
    unfold isControl
    rw [ty]
    cases hold : f.hold with
    | charged n => exact absurd hold (unstored n)
    | _ => rfl
  cases i with
  | hello q c => exact absurd (Option.some.inj taken).symm other
  | request q c | post q c | reply q c | extend q c | cancel q c | drawWindow q c | drawPixels q c =>
    cases bytes
    exact ⟨_, congrArg _ (frameEvent_of_completes _ good (by simpa using (Option.some.inj taken).symm))⟩
  | unknownRequest q c | queryLink q c | queryChannel q c | querySession q c | queryNotices q c | setNoticeMask q c
  | hold q c | release q c | setBar q c | clearBar q c | writeChannel q c | removeChannel q c | writeSettings q c
  | copyArea q c | activate q c | fullClear q c | openSession q c | closeSession q c | touchRestart q c
  | controlMalformed q c =>
    cases bytes
    exact ⟨_, congrArg _ (frameEvent_of_completes _ good (control _ (Option.some.inj taken).symm))⟩
  | _ => cases taken

theorem exec_hello {i : Instr} {p : Port} {b : Byte} {s : State} {f : RxFrame} (bytes : byteOf i = some (p, b))
    (taken : frameTypeTaken i = some .hello) (good : Completes s p b f) (ty : f.ty = .hello) :
    exec i s = .next (byteEnd p (goodHello p f (handed p s))) := by
  cases i with
  | hello q c =>
    cases bytes
    exact congrArg _ (frameEvent_of_completes _ good (by simp [ty]))
  | _ => cases taken

theorem handed_countError (p : Port) (s : State) :
    countError p (handed p s) =
      (handed p s).setLink p { (handed p s).link p with errors := min 65535 ((s.link p).errors + 1) } := by
  simp only [countError, handed_errors, errorLimit]

theorem nospaceIds_eq (f : RxFrame) :
    nospaceIds f = if f.ty = .request ∨ f.ty = .post ∨ f.ty = .reply then f.first.toList else [] := by
  unfold nospaceIds
  cases f.ty <;> rfl

/-- A HELLO with a body whose blocks a stall has released is held again, given back and counted once (R39, R170). -/
theorem heldHello_holdFrame (p : Port) (n : Nat) (hn : n ≠ 0) (u : State) :
    heldHello p n (holdFrame p .hello n u).1 (holdFrame p .hello n u).2 = countError p u := by
  unfold holdFrame
  rw [if_pos (.inr rfl)]
  split
  · simp [heldHello, hn, release, charge]
  · split
    · simp only [heldHello, if_neg hn, freeReserve, takeReserve, State.setLink_link_self, State.setLink_setLink]
      exact congrArg _ (State.setLink_self u p)
    · rfl

/-- Settles O30: by where the frame is held, and whether it is a HELLO. -/
theorem goodFramesNotTaken : Obligations.GoodFramesNotTaken := by
  unfold Obligations.GoodFramesNotTaken
  intro i p b s f bytes taken good
  refine ⟨fun other hold => ?_, fun which hold => ?_, fun hold => ?_, fun ty body => ⟨fun n hold => ?_, fun hold => ?_⟩⟩
  · obtain ⟨take, h⟩ := exec_handsOn bytes taken good other (by simp [hold])
    rw [h, handOn, hold, ← nospaceIds_eq]
  · rw [← handed_countError]
    by_cases hello : f.ty = .hello
    · have body : f.len ≠ 0 := which.resolve_left (not_not_intro hello)
      rw [exec_hello bytes (hello ▸ taken) good hello, goodHello, hold]
      dsimp only
      rw [heldHello_holdFrame p f.len body]
    · obtain ⟨take, h⟩ := exec_handsOn bytes taken good hello (by simp [hold])
      rw [h, handOn, hold]
  · by_cases hello : f.ty = .hello
    · rw [exec_hello bytes (hello ▸ taken) good hello, goodHello, hold]
      rfl
    · obtain ⟨take, h⟩ := exec_handsOn bytes taken good hello (by simp [hold])
      rw [h, handOn, hold]
  · rw [exec_hello bytes (ty ▸ taken) good ty, goodHello, hold]
    simp only [heldHello, if_neg body, release, countError, handed_chargedTo, State.setCharged_link, handed_errors, errorLimit]
    rfl
  · rw [exec_hello bytes (ty ▸ taken) good ty, goodHello, hold]
    simp [heldHello, body, freeReserve, countError, errorLimit]

end Sys2Proof.Proofs
end

section
/-! Requests and posts: the checks of R24 in their order, the answers of R25 and R27, and the admission (R26, R29 to R31, R33). -/

namespace Sys2Proof.Proofs

open Sys2Proof Sys2Proof.Machine Sys2Proof.Safety

/-! ## The body of a message -/

theorem halfAt_toNat (l : List Byte) (i : Nat) :
    natAt l i = (byteAt l i).toNat + 256 * (byteAt l (i + 1)).toNat := by
  have low : (byteAt l i).toNat < 2 ^ 8 := (byteAt l i).isLt
  rw [natAt, halfAt, BitVec.toNat_append, ← Nat.shiftLeft_add_eq_or_of_lt low, Nat.shiftLeft_eq]
  omega

theorem readMessage_cons (a b lo hi : Byte) (rest : List Byte) :
    readMessage (a :: b :: lo :: hi :: rest) =
      if rest.length ≤ 1024 then
        if h : lo.toNat + 256 * hi.toNat < 16 then some { chan := a, second := b, kind := ⟨_, h⟩, payload := rest } else none
      else none := by
  have kind : natAt (a :: b :: lo :: hi :: rest) 2 = lo.toNat + 256 * hi.toNat := halfAt_toNat _ 2
  have length : ((a :: b :: lo :: hi :: rest).length < 4 ∨ maxPayload + 4 < (a :: b :: lo :: hi :: rest).length) ↔
      ¬ rest.length ≤ 1024 := by
    simp only [List.length_cons, maxPayload]
    omega
  unfold readMessage
  rw [ite_congr (propext length) (fun _ => rfl) (fun _ => rfl)]
  simp only [kind, ite_not]
  rfl

/-- The layout of R161: number, tag or label, a 16-bit kind 0..15 low byte first, and at most 1024 bytes of payload. -/
theorem readMessage_eq_some (body : List Byte) (m : Message) :
    readMessage body = some m ↔
      ∃ lo hi, body = m.chan :: m.second :: lo :: hi :: m.payload ∧ m.kind.val = lo.toNat + 256 * hi.toNat ∧
        m.payload.length ≤ 1024 := by
  constructor
  · intro h
    match body, h with
    | a :: b :: lo :: hi :: rest, h =>
      rw [readMessage_cons] at h
      split at h
      · split at h
        · cases h
          exact ⟨lo, hi, rfl, rfl, by assumption⟩
        · cases h
      · cases h
    | [], h | [_], h | [_, _], h | [_, _, _], h => cases h
  · rintro ⟨lo, hi, rfl, kind, length⟩
    obtain ⟨chan, second, ⟨k, hk⟩, payload⟩ := m
    obtain rfl : k = _ := kind
    rw [readMessage_cons, if_pos length, dif_pos hk]

/-! ## The checks in their order -/

theorem chnOf_eq_some {n : Nat} {c : Chn} : chnOf n = some c ↔ n = c.val + 1 := by
  unfold chnOf
  split
  · rw [Option.some.injEq, Fin.ext_iff]
    dsimp only
    omega
  · constructor
    · nofun
    · omega

/-- Step 3 is what `Allowed` asks. -/
theorem step3_eq_some {s : State} {p : Port} {m : Message} {isPost : Bool} {c : Chn} {r : ChannelRecord} :
    step3 s p m isPost = some (c, r) ↔ Allowed s p m isPost c r := by
  unfold step3
  constructor
  · intro h
    split at h
    · rename_i d hd
      split at h
      · rename_i q hq
        split at h
        · rename_i checks
          obtain ⟨owner, types, kind, size⟩ := checks
          cases h
          exact ⟨chnOf_eq_some.mp hd, hq, owner, types, kind, size⟩
        · cases h
      · cases h
    · cases h
  · intro h
    simp only [chnOf_eq_some.mpr h.number, h.record]
    rw [if_pos ⟨h.owner, h.types, h.kind, h.size⟩]

theorem admission_of_not_allowed {s : State} {p : Port} {m : Message} {isPost : Bool}
    (h : ∀ c r, ¬ Allowed s p m isPost c r) : admission s p m isPost = .refuse .illegal .illegal := by
  have none : step3 s p m isPost = none := Option.eq_none_iff_forall_ne_some.mpr fun x hx => h x.1 x.2 (step3_eq_some.mp hx)
  rw [admission, none]

/-- What the checks of steps 4 to 9 decide of a message that passes step 3 (R24). -/
theorem admission_of_allowed {s : State} {p : Port} {m : Message} {isPost : Bool} {c : Chn} {r : ChannelRecord}
    (h : Allowed s p m isPost c r) :
    admission s p m isPost =
      if (s.chan c).bar then .refuse .barred .barred
      else if effectiveHold s c then .refuse .busy .busy
      else if (s.link r.peer).state ≠ .up then .refuse .absent .absent
      else if r.maxOutstanding ≤ (s.chan c).outstanding ∨ fwdCapacity ≤ (s.chan c).fwd.length then .refuse .busy .busy
      else if isPost = false ∧ (exchangeQuota p ≤ heldBy s p ∨ lowestFree s = none) then .refuse .nospace .nospace
      else if overBudget s c r m.payload.length then .budget r.owner
      else .accept c r := by
  rw [admission, step3_eq_some.mpr h]

theorem overBudget_iff {s : State} {c : Chn} {r : ChannelRecord} {n : Nat} :
    overBudget s c r n = true ↔ r.creditBase ≠ 0 ∧ (s.chan c).credit < 1 + (n + 31) / 32 := by
  rw [overBudget, Bool.and_eq_true, bne_iff_ne, decide_eq_true_iff]
  rfl

section checks
variable {s : State} {p : Port} {m : Message} {isPost : Bool} {c : Chn} {r : ChannelRecord} (allowed : Allowed s p m isPost c r)
include allowed

theorem admission_barred (bar : (s.chan c).bar = true) : admission s p m isPost = .refuse .barred .barred := by
  rw [admission_of_allowed allowed, if_pos bar]

variable (bar : (s.chan c).bar = false)
include bar

theorem admission_held (hold : effectiveHold s c = true) : admission s p m isPost = .refuse .busy .busy := by
  rw [admission_of_allowed allowed, if_neg (by simp [bar]), if_pos hold]

variable (hold : effectiveHold s c = false)
include hold

theorem admission_absent (down : (s.link r.peer).state ≠ .up) : admission s p m isPost = .refuse .absent .absent := by
  rw [admission_of_allowed allowed, if_neg (by simp [bar]), if_neg (by simp [hold]), if_pos down]

variable (up : (s.link r.peer).state = .up)
include up

theorem admission_full (full : r.maxOutstanding ≤ (s.chan c).outstanding ∨ 4 ≤ (s.chan c).fwd.length) :
    admission s p m isPost = .refuse .busy .busy := by
  have full : r.maxOutstanding ≤ (s.chan c).outstanding ∨ fwdCapacity ≤ (s.chan c).fwd.length := full
  rw [admission_of_allowed allowed, if_neg (by simp [bar]), if_neg (by simp [hold]), if_neg (not_not_intro up), if_pos full]

variable (outstanding : (s.chan c).outstanding < r.maxOutstanding) (room : (s.chan c).fwd.length < 4)
include outstanding room

/-- Past step 7, the exchange quota and the budget decide. -/
theorem admission_last :
    admission s p m isPost =
      if isPost = false ∧ (exchangeQuota p ≤ heldBy s p ∨ lowestFree s = none) then .refuse .nospace .nospace
      else if overBudget s c r m.payload.length then .budget r.owner
      else .accept c r := by
  have room : ¬ (r.maxOutstanding ≤ (s.chan c).outstanding ∨ fwdCapacity ≤ (s.chan c).fwd.length) := by
    simp only [fwdCapacity]
    omega
  rw [admission_of_allowed allowed, if_neg (by simp [bar]), if_neg (by simp [hold]), if_neg (not_not_intro up), if_neg room]

variable (space : isPost = false → heldBy s p < exchangeQuota p ∧ lowestFree s ≠ none)
include space

theorem admission_budget (metered : r.creditBase ≠ 0) (short : (s.chan c).credit < 1 + (m.payload.length + 31) / 32) :
    admission s p m isPost = .budget p := by
  rw [admission_last allowed bar hold up outstanding room, if_neg, if_pos (overBudget_iff.mpr ⟨metered, short⟩), allowed.owner]
  rintro ⟨isReq, full | none⟩
  · exact absurd (space isReq).1 (Nat.not_lt.mpr full)
  · exact (space isReq).2 none

theorem admission_accept (credit : r.creditBase = 0 ∨ 1 + (m.payload.length + 31) / 32 ≤ (s.chan c).credit) :
    admission s p m isPost = .accept c r := by
  rw [admission_last allowed bar hold up outstanding room, if_neg, if_neg]
  · rw [overBudget_iff]
    omega
  · rintro ⟨isReq, full | none⟩
    · exact absurd (space isReq).1 (Nat.not_lt.mpr full)
    · exact (space isReq).2 none

end checks

/-! ## A REQUEST -/

/-- The checks read nothing that the arrival of the frame changes. -/
theorem handed_admission (p q : Port) (s : State) (m : Message) (isPost : Bool) :
    admission (handed p s) q m isPost = admission s q m isPost := by
  simp [admission, step3, overBudget]

theorem exec_request {p : Port} {b : Byte} {s : State} {n : Nat} {body : List Byte} (h : Arrives s p b .request n body) :
    exec (.request p b) s = .next (byteEnd p (takeRequest p n body (handed p s))) :=
  congrArg _ (typedFrame_arrives (takeRequest p) h)

section request
variable {p : Port} {b : Byte} {s : State} {n : Nat} {body : List Byte} {m : Message}
  (arrives : Arrives s p b .request n body) (read : readMessage body = some m) (unused : entryOfTag s p m.second = none)
include arrives read unused

theorem exec_request_of_refuse {st : Status} {why : Reason} (h : admission s p m false = .refuse st why) :
    exec (.request p b) s =
      .next (byteEnd p (pushPart p { what := .refusal m.chan m.second m.kind st, block := .charged } (kept p n s))) := by
  rw [exec_request arrives]
  simp only [takeRequest, read, handed_entryOfTag, unused, handed_admission, h]
  rfl

theorem exec_request_of_budget {o : Port} (h : admission s p m false = .budget o) :
    exec (.request p b) s =
      .next (byteEnd p (latch o .creditRefused
        (pushPart p { what := .refusal m.chan m.second m.kind .budget, block := .charged } (kept p n s)))) := by
  rw [exec_request arrives]
  simp only [takeRequest, read, handed_entryOfTag, unused, handed_admission, h]
  rfl

theorem exec_request_of_accept {c : Chn} {r : ChannelRecord} (h : admission s p m false = .accept c r) :
    exec (.request p b) s = .next (byteEnd p (admitRequest p c r m n (handed p s))) := by
  rw [exec_request arrives]
  simp only [takeRequest, read, handed_entryOfTag, unused, handed_admission, h]
  rfl

end request

/-- Settles O34: the verdicts of steps 1 and 2, and the refusals of steps 3 to 9, each by the check that decides. -/
theorem requestRefused : Obligations.RequestRefused := by
  unfold Obligations.RequestRefused
  intro p b s n body arrives
  refine ⟨fun bad => ?_, fun m read => ⟨fun used => ?_, fun unused => ⟨fun illegal => ?_, fun c r allowed => ?_⟩⟩⟩
  · rw [exec_request arrives]
    simp only [takeRequest, bad]
    rfl
  · have used : (entryOfTag s p m.second).isSome = true := Option.isSome_iff_ne_none.mpr used
    rw [exec_request arrives]
    simp only [takeRequest, read, handed_entryOfTag, used, if_true]
    rfl
  · exact exec_request_of_refuse arrives read unused (admission_of_not_allowed illegal)
  · have refused {st : Status} {why : Reason} := exec_request_of_refuse (st := st) (why := why) arrives read unused
    refine ⟨fun bar => refused (admission_barred allowed bar), fun bar =>
      ⟨fun hold => refused (admission_held allowed bar hold), fun hold =>
        ⟨fun down => refused (admission_absent allowed bar hold down), fun up =>
          ⟨fun full => refused (admission_full allowed bar hold up full), fun out room => ⟨fun quota => refused (why := .nospace) ?_,
            fun quota free metered short => exec_request_of_budget arrives read unused ?_⟩⟩⟩⟩⟩
    · rw [admission_last allowed bar hold up out room, if_pos ⟨rfl, .inl quota⟩]
    · exact admission_budget allowed bar hold up out room (fun _ => ⟨quota, free⟩) metered short

/-! ## The admission -/

/-- The credit that an admission leaves (R30, R31, R33). -/
theorem debit_eq (c : Chn) (r : ChannelRecord) (len : Nat) (s : State) :
    debit c r len s = s.setChan c
      { s.chan c with
        credit := if r.creditBase = 0 then (s.chan c).credit
                  else if (s.chan c).lastRefill = some s.time then r.creditBase
                  else (s.chan c).credit - (1 + (len + 31) / 32) } := by
  unfold debit
  split
  · exact (State.setChan_self s c).symm
  · rfl

/-- Settles O33: the layout of the body, and the admission as it is written in R26 and R43. -/
theorem requestAdmitted : Obligations.RequestAdmitted := by
  unfold Obligations.RequestAdmitted
  refine ⟨readMessage_eq_some, ?_⟩
  intro p b s n body m c r e arrives read unused allowed bar hold up out room quota free credit
  have accept : admission s p m false = .accept c r :=
    admission_accept allowed bar hold up out room (fun _ => ⟨quota, by simp [free]⟩) credit
  rw [exec_request_of_accept arrives read unused accept]
  simp only [admitRequest, handed_lowestFree, free, debit_eq, State.setChan_chan_self, State.setChan_setChan,
    State.setEntry_chan, State.setEntry_time, handed_chan, handed_time, newEntry, handed_entry, snapshotOf]

/-! ## A POST -/

theorem exec_post {p : Port} {b : Byte} {s : State} {n : Nat} {body : List Byte} (h : Arrives s p b .post n body) :
    exec (.post p b) s = .next (byteEnd p (takePost p n body (handed p s))) :=
  congrArg _ (typedFrame_arrives (takePost p) h)

section post
variable {p : Port} {b : Byte} {s : State} {n : Nat} {body : List Byte} {m : Message}
  (arrives : Arrives s p b .post n body) (read : readMessage body = some m)
include arrives read

theorem exec_post_of_refuse {st : Status} {why : Reason} (h : admission s p m true = .refuse st why) :
    exec (.post p b) s = .next (refusedAs p n why .post (body.take 2) s) := by
  rw [exec_post arrives]
  simp only [takePost, read, handed_admission, h]
  rfl

theorem exec_post_of_budget {o : Port} (h : admission s p m true = .budget o) :
    exec (.post p b) s =
      .next (byteEnd p (latch o .creditRefused (pushPart p
        { what := .verdict .budget 0x03#8 (body.take 2), block := .charged } (kept p n s)))) := by
  rw [exec_post arrives]
  simp only [takePost, read, handed_admission, h]
  rfl

theorem exec_post_of_accept {c : Chn} {r : ChannelRecord} (h : admission s p m true = .accept c r) :
    exec (.post p b) s = .next (byteEnd p (admitPost p c r m n (handed p s))) := by
  rw [exec_post arrives]
  simp only [takePost, read, handed_admission, h]

end post

/-- Settles O35: the same checks without steps 2 and 8, with verdicts, and the admission of a post. -/
theorem postAdmittedOrRefused : Obligations.PostAdmittedOrRefused := by
  unfold Obligations.PostAdmittedOrRefused
  intro p b s n body arrives
  refine ⟨fun bad => ?_, fun m read => ⟨fun illegal => ?_, fun c r allowed => ?_⟩⟩
  · rw [exec_post arrives]
    simp only [takePost, bad]
    rfl
  · exact exec_post_of_refuse arrives read (admission_of_not_allowed illegal)
  · have refused {st : Status} {why : Reason} := exec_post_of_refuse (st := st) (why := why) arrives read
    refine ⟨fun bar => refused (admission_barred allowed bar), fun bar =>
      ⟨fun hold => refused (admission_held allowed bar hold), fun hold =>
        ⟨fun down => refused (admission_absent allowed bar hold down), fun up =>
          ⟨fun full => refused (admission_full allowed bar hold up full), fun out room =>
            ⟨fun metered short => exec_post_of_budget arrives read ?_, fun credit => ?_⟩⟩⟩⟩⟩
    · exact admission_budget allowed bar hold up out room nofun metered short
    · rw [exec_post_of_accept arrives read (admission_accept allowed bar hold up out room nofun credit)]
      simp only [admitPost, debit_eq, State.setChan_chan_self, State.setChan_setChan, handed_chan, handed_time]

end Sys2Proof.Proofs
end

section
/-! The end of an exchange in full (R40, R46, R63, R64): its entry, its WITHDRAW, its blocks and the frame in transmission; and
CANCEL (R60). -/

namespace Sys2Proof.Proofs

open Sys2Proof Sys2Proof.Machine Sys2Proof.Safety

/-! ## The end of an exchange -/

/-- Ending `e` with the status `st` tells its responder by a WITHDRAW (R63). -/
def Tells (s : State) (e : EntryIx) (st : Status) : Prop :=
  st.withdraws = true ∧ (s.entry e).fwdOnce = true ∧ (s.link (s.entry e).responder).state = .up

theorem forwardInFlight_eq (s : State) (e : EntryIx) :
    forwardInFlight s e = ((s.arb (s.entry e).responder).tx.map Tx.source == some (.forward e none)) := by
  unfold forwardInFlight
  cases (s.arb (s.entry e).responder).tx <;> rfl

/-- The state from which the reply of `e` joins its return queue: REPLYING, its request dropped. -/
def ending (e : EntryIx) (st : Status) (s : State) : State := joinReturn e none (dropRequest e (enterReplying e st s))

theorem endExchange_eq (e : EntryIx) (st : Status) (s : State) :
    endExchange e st s =
      if st.withdraws && (s.entry e).fwdOnce then makeWithdraw e (ending e st s) else ending e st s := rfl

theorem dropRequest_links (e : EntryIx) (s : State) : (dropRequest e s).links = s.links := by
  unfold dropRequest
  dsimp only
  split <;> rfl

theorem dropRequest_notices (e : EntryIx) (s : State) : (dropRequest e s).notices = s.notices := by
  unfold dropRequest
  dsimp only
  split <;> rfl

/-- Dropping a request writes no more of an arbiter than the source of the frame in transmission. -/
theorem dropRequest_arb (e : EntryIx) (q : Port) (s : State) :
    (dropRequest e s).arb q =
      if forwardInFlight s e = true ∧ q = (s.entry e).responder then
        { s.arb q with tx := (s.arb q).tx.map fun t => { t with source := .forward e (some (reqHeld s e)) } }
      else s.arb q := by
  unfold dropRequest
  by_cases h : forwardInFlight s e = true
  · simp only [h, if_true, State.setEntry_arb, State.setArb_arb, true_and]
    split
    · rename_i hq; rw [hq]
    · rfl
  · simp only [h, if_false, State.setEntry_arb, false_and, Bool.false_eq_true]
    rfl

/-- The request blocks are released at once, or stay with the forward in transmission (R40). -/
theorem dropRequest_chargedTo (e : EntryIx) (q : Port) (s : State) :
    (dropRequest e s).chargedTo q =
      if forwardInFlight s e = false ∧ q = (s.entry e).requester then s.chargedTo q - (reqHeld s e).blocks
      else s.chargedTo q := by
  unfold dropRequest
  cases forwardInFlight s e
  · simp only [Bool.false_eq_true, if_false, State.setEntry_chargedTo, release_chargedTo, true_and]
    have port : (reqHeld s e).port = (s.entry e).requester := rfl
    rw [port]
    split
    · rename_i hq; rw [hq]
    · rfl
  · simp

theorem makeWithdraw_links (e : EntryIx) (s : State) : (makeWithdraw e s).links = s.links := by
  unfold makeWithdraw
  dsimp only
  split <;> rfl

theorem makeWithdraw_notices (e : EntryIx) (s : State) : (makeWithdraw e s).notices = s.notices := by
  unfold makeWithdraw
  dsimp only
  split <;> rfl

theorem makeWithdraw_charged (e : EntryIx) (s : State) : (makeWithdraw e s).charged = s.charged := by
  unfold makeWithdraw
  dsimp only
  split <;> rfl

theorem makeWithdraw_arb (e : EntryIx) (q : Port) (s : State) :
    (makeWithdraw e s).arb q =
      if (s.link (s.entry e).responder).state = .up ∧ q = (s.entry e).responder then
        { s.arb q with iq := (s.arb q).iq ++ [{ what := .withdraw e, block := .pool }] }
      else s.arb q := by
  unfold makeWithdraw
  by_cases up : (s.link (s.entry e).responder).state = .up
  · simp only [up, beq_self_eq_true, if_true, pushPart_arb, State.setEntry_arb, true_and]
    split
    · rename_i hq; rw [hq]
    · rfl
  · simp [up]

theorem ending_links (e : EntryIx) (st : Status) (s : State) : (ending e st s).links = s.links :=
  dropRequest_links e (enterReplying e st s)

theorem ending_link (e : EntryIx) (st : Status) (q : Port) (s : State) : (ending e st s).link q = s.link q := by
  simp only [State.link, ending_links]

theorem ending_notices (e : EntryIx) (st : Status) (s : State) : (ending e st s).notices = s.notices :=
  dropRequest_notices e (enterReplying e st s)

theorem ending_entry (e d : EntryIx) (st : Status) (s : State) :
    (ending e st s).entry d =
      if d = e then { s.entry e with st := .replying, status := some st, deadline := none, req := none } else s.entry d := by
  simp only [ending, joinReturn, State.setChan_entry, dropRequest_entry, enterReplying, State.setEntry_entry_self,
    State.setEntry_entry]
  split <;> rfl

theorem forwardInFlight_enterReplying (e : EntryIx) (st : Status) (s : State) :
    forwardInFlight (enterReplying e st s) e = forwardInFlight s e := by
  simp [forwardInFlight, enterReplying]

theorem reqHeld_enterReplying (e : EntryIx) (st : Status) (s : State) : reqHeld (enterReplying e st s) e = reqHeld s e := by
  simp [reqHeld, enterReplying]

theorem ending_arb (e : EntryIx) (st : Status) (q : Port) (s : State) :
    (ending e st s).arb q =
      if forwardInFlight s e = true ∧ q = (s.entry e).responder then
        { s.arb q with tx := (s.arb q).tx.map fun t => { t with source := .forward e (some (reqHeld s e)) } }
      else s.arb q := by
  have shape : (ending e st s).arb q = (dropRequest e (enterReplying e st s)).arb q := rfl
  rw [shape, dropRequest_arb, forwardInFlight_enterReplying, reqHeld_enterReplying]
  simp [enterReplying]

theorem ending_chargedTo (e : EntryIx) (st : Status) (q : Port) (s : State) :
    (ending e st s).chargedTo q =
      if forwardInFlight s e = false ∧ q = (s.entry e).requester then s.chargedTo q - (reqHeld s e).blocks
      else s.chargedTo q := by
  have shape : (ending e st s).chargedTo q = (dropRequest e (enterReplying e st s)).chargedTo q := rfl
  rw [shape, dropRequest_chargedTo, forwardInFlight_enterReplying, reqHeld_enterReplying]
  simp [enterReplying]

theorem ending_up (e : EntryIx) (st : Status) (s : State) :
    ((ending e st s).link ((ending e st s).entry e).responder).state = (s.link (s.entry e).responder).state := by
  rw [ending_link, ending_entry, if_pos rfl]

/-- An exchange that ends with a WITHDRAW, or without one. -/
theorem endExchange_told {s : State} {e : EntryIx} {st : Status} (h : Tells s e st) :
    endExchange e st s = makeWithdraw e (ending e st s) := by
  obtain ⟨withdraws, once, -⟩ := h
  rw [endExchange_eq, withdraws, once]
  rfl

theorem endExchange_untold {s : State} {e : EntryIx} {st : Status} (h : ¬ Tells s e st) :
    endExchange e st s = ending e st s := by
  rw [endExchange_eq]
  split
  · rename_i both
    obtain ⟨withdraws, once⟩ := Bool.and_eq_true_iff.mp both
    have down : (s.link (s.entry e).responder).state ≠ .up := fun up => h ⟨withdraws, once, up⟩
    rw [makeWithdraw, ending_up]
    simp [down]
  · rfl

theorem endExchange_entry_told {s : State} {e : EntryIx} {st : Status} (h : Tells s e st) :
    (endExchange e st s).entry e =
      { s.entry e with st := .replying, status := some st, deadline := none, req := none, withdraw := true } := by
  rw [endExchange_told h, makeWithdraw_entry, if_pos ⟨rfl, by rw [ending_up]; exact h.2.2⟩, ending_entry, if_pos rfl]

theorem endExchange_entry_untold {s : State} {e : EntryIx} {st : Status} (h : ¬ Tells s e st) :
    (endExchange e st s).entry e =
      { s.entry e with st := .replying, status := some st, deadline := none, req := none } := by
  rw [endExchange_untold h, ending_entry, if_pos rfl]

/-- The WITHDRAW joins the responder's part frames, and nothing else does (R64). -/
theorem endExchange_iq {s : State} {e : EntryIx} {st : Status} (q : Port) :
    (Tells s e st → q = (s.entry e).responder →
      ((endExchange e st s).arb q).iq = (s.arb q).iq ++ [{ what := .withdraw e, block := .pool }]) ∧
    (¬ (Tells s e st ∧ q = (s.entry e).responder) → ((endExchange e st s).arb q).iq = (s.arb q).iq) := by
  have same : ((ending e st s).arb q).iq = (s.arb q).iq := by
    rw [ending_arb]
    split <;> rfl
  have responder : ((ending e st s).entry e).responder = (s.entry e).responder := by rw [ending_entry, if_pos rfl]
  refine ⟨fun told hq => ?_, fun none => ?_⟩
  · rw [endExchange_told told, makeWithdraw_arb, ending_up, responder, if_pos ⟨told.2.2, hq⟩]
    rw [same]
  · by_cases told : Tells s e st
    · rw [endExchange_told told, makeWithdraw_arb, responder, if_neg fun h => none ⟨told, h.2⟩, same]
    · rw [endExchange_untold told, same]

theorem endExchange_tx (e : EntryIx) (st : Status) (q : Port) (s : State) :
    ((endExchange e st s).arb q).tx = ((ending e st s).arb q).tx := by
  rw [endExchange_eq]
  split
  · rw [makeWithdraw_arb]
    split <;> rfl
  · rfl

theorem endExchange_chargedTo (e : EntryIx) (st : Status) (q : Port) (s : State) :
    (endExchange e st s).chargedTo q =
      if forwardInFlight s e = false ∧ q = (s.entry e).requester then s.chargedTo q - (reqHeld s e).blocks
      else s.chargedTo q := by
  rw [← ending_chargedTo e st, endExchange_eq]
  split
  · simp only [State.chargedTo, makeWithdraw_charged]
  · rfl

theorem endExchange_links (e : EntryIx) (st : Status) (s : State) : (endExchange e st s).links = s.links := by
  rw [← ending_links e st s, endExchange_eq]
  split
  · exact makeWithdraw_links _ _
  · rfl

theorem endExchange_notices (e : EntryIx) (st : Status) (s : State) : (endExchange e st s).notices = s.notices := by
  rw [← ending_notices e st s, endExchange_eq]
  split
  · exact makeWithdraw_notices _ _
  · rfl

/-! ## A CANCEL -/

theorem exec_cancel {p : Port} {b : Byte} {s : State} {n : Nat} {body : List Byte} (h : Arrives s p b .cancel n body) :
    exec (.cancel p b) s = .next (byteEnd p (takeCancel p n body (handed p s))) :=
  congrArg _ (typedFrame_arrives (takeCancel p) h)

/-- A byte clocked moves a frame in transmission on and leaves its source. -/
theorem handed_source (p q : Port) (s : State) : ((handed p s).arb q).tx.map Tx.source = (s.arb q).tx.map Tx.source := by
  have clocked : ((clockOut p s).arb q).tx.map Tx.source = (s.arb q).tx.map Tx.source := by
    unfold clockOut
    split
    · rfl
    · split
      · rename_i t ht
        dsimp only
        split
        · rw [State.setArb_arb]
          split
          · rename_i hq; rw [hq, ht]; rfl
          · rfl
        · rfl
      · rfl
  exact clocked

theorem filter_bne {α : Type} [DecidableEq α] (a : α) (l : List α) : l.filter (· != a) = l.filter (· ≠ a) :=
  List.filter_congr fun _ _ => Bool.eq_iff_iff.mpr (by simp)

/-- The state from which a CANCEL ends `e`: the CANCEL's blocks released, the request out of its queue (R60). -/
def withdrawn (p : Port) (n : Nat) (e : EntryIx) (s : State) : State :=
  leaveRetries e (leaveForward e (release p n (handed p s)))

section withdrawn
variable (p : Port) (n : Nat) (e : EntryIx) (s : State)

theorem withdrawn_entry (d : EntryIx) : (withdrawn p n e s).entry d = s.entry d := handed_entry p s d

theorem withdrawn_link_state (q : Port) : ((withdrawn p n e s).link q).state = (s.link q).state := handed_state p s q

theorem withdrawn_iq (q : Port) : ((withdrawn p n e s).arb q).iq = (s.arb q).iq := handed_iq p s q

theorem withdrawn_chargedTo (q : Port) :
    (withdrawn p n e s).chargedTo q = if q = p then s.chargedTo p - n else s.chargedTo q := by
  have h : (withdrawn p n e s).chargedTo q = (release p n (handed p s)).chargedTo q := rfl
  rw [h, release_chargedTo, handed_chargedTo, handed_chargedTo]

theorem withdrawn_notices : (withdrawn p n e s).notices = s.notices := handed_notices p s

theorem withdrawn_traffic : Traffic (handed p s) (withdrawn p n e s) :=
  (release_traffic _ _ _).trans ((leaveForward_traffic _ _).trans (leaveRetries_traffic _ _))

theorem withdrawn_chan (c : Chn) :
    (withdrawn p n e s).chan c =
      if c = (s.entry e).chan then
        { s.chan c with
          fwd := (s.chan c).fwd.filter (· ≠ .request e)
          retries := (s.chan c).retries.filter (· ≠ e) }
      else s.chan c := by
  have entry : (leaveForward e (release p n (handed p s))).entry e = s.entry e := handed_entry p s e
  unfold withdrawn leaveRetries
  dsimp only
  rw [entry]
  simp only [leaveForward, release, State.setChan_chan, State.setCharged_entry, State.setCharged_chan, handed_entry,
    handed_chan]
  split
  · rename_i hc
    subst hc
    simp only [filter_bne, if_true]
  · rfl

theorem withdrawn_forwardInFlight : forwardInFlight (withdrawn p n e s) e = forwardInFlight s e := by
  rw [forwardInFlight_eq, forwardInFlight_eq, withdrawn_entry, ← handed_source p _ s]
  rfl

theorem withdrawn_reqHeld : reqHeld (withdrawn p n e s) e = reqHeld s e := by
  simp only [reqHeld, withdrawn_entry]

theorem withdrawn_tells (st : Status) : Tells (withdrawn p n e s) e st ↔ Tells s e st := by
  simp only [Tells, withdrawn_entry, withdrawn_link_state]

end withdrawn

theorem entryOfTag_requester {s : State} {p : Port} {t : Byte} {e : EntryIx} (h : entryOfTag s p t = some e) :
    (s.entry e).requester = p := by
  have := List.find?_some h
  simp only [Bool.and_eq_true, beq_iff_eq] at this
  exact this.1.2

/-- Settles O38: the answers, and the end CANCELLED of a QUEUED or FORWARDED exchange. -/
theorem cancelHandled : Obligations.CancelHandled := by
  unfold Obligations.CancelHandled
  intro p b s n body arrives
  refine ⟨fun bad => ?_, ?_⟩
  · rw [exec_cancel arrives]
    simp only [takeCancel, readCancel, if_neg bad]
    rfl
  rintro tag rfl
  have read : readCancel [tag] = some tag := rfl
  refine ⟨fun none => ?_, fun e he => ⟨fun replying => ?_, fun live => ?_⟩⟩
  · rw [exec_cancel arrives]
    simp only [takeCancel, read, handed_entryOfTag, none]
    rfl
  · rw [exec_cancel arrives]
    simp only [takeCancel, read, handed_entryOfTag, he, handed_entry, replying, if_true]
    rfl
  · have requester := entryOfTag_requester he
    have tells : Tells (withdrawn p n e s) e .cancelled ↔
        (s.entry e).fwdOnce = true ∧ (s.link (s.entry e).responder).state = .up :=
      (withdrawn_tells p n e s .cancelled).trans (and_iff_right rfl)
    have traffic : Traffic (handed p s) (endExchange e .cancelled (withdrawn p n e s)) :=
      (withdrawn_traffic p n e s).trans (endExchange_traffic _ _ _)
    refine ⟨endExchange e .cancelled (withdrawn p n e s), ?_, fun told => ?_, fun untold => ?_, fun d hd => ?_, ?_,
      fun c hc => ?_, fun told => ?_, fun q untold => ?_, fun idle => ?_, fun flies => ⟨?_, ?_⟩, fun q hq => ?_, ?_, ?_, ?_, ?_⟩
    · have notReplying : (s.entry e).st ≠ .replying := by rcases live with h | h <;> rw [h] <;> decide
      rw [exec_cancel arrives]
      simp only [takeCancel, read, handed_entryOfTag, he, handed_entry, if_neg notReplying]
      rfl
    · rw [endExchange_entry_told (tells.mpr told), withdrawn_entry]
    · rw [endExchange_entry_untold (mt tells.mp untold), withdrawn_entry]
    · rw [endExchange_entry_ne _ _ hd, withdrawn_entry]
    · rw [endExchange_chan, withdrawn_entry, if_pos rfl, withdrawn_chan, if_pos rfl]
    · rw [endExchange_chan, withdrawn_entry, if_neg hc, withdrawn_chan, if_neg hc]
    · rw [(endExchange_iq _).1 (tells.mpr told) (by rw [withdrawn_entry]), withdrawn_iq]
    · rw [(endExchange_iq q).2 (by rwa [tells, withdrawn_entry]), withdrawn_iq]
    · rw [endExchange_chargedTo, withdrawn_forwardInFlight, withdrawn_reqHeld, withdrawn_entry, if_pos ⟨idle, requester.symm⟩,
        withdrawn_chargedTo, if_pos rfl]
      rfl
    · rw [endExchange_chargedTo, withdrawn_forwardInFlight, if_neg (by simp [flies]), withdrawn_chargedTo, if_pos rfl]
    · have source := (handed_source p (s.entry e).responder s).trans (beq_iff_eq.mp ((forwardInFlight_eq s e).symm.trans flies))
      obtain ⟨t, ht, -⟩ := Option.map_eq_some_iff.mp source
      refine ⟨{ t with source := .forward e (some (reqHeld s e)) }, ?_, ?_⟩
      · rw [endExchange_tx, ending_arb, withdrawn_forwardInFlight, withdrawn_reqHeld, withdrawn_entry, if_pos ⟨flies, rfl⟩]
        exact congrArg (Option.map fun t : Tx => { t with source := .forward e (some (reqHeld s e)) }) ht
      · rw [← requester]
        rfl
    · rw [endExchange_chargedTo, withdrawn_entry, requester, if_neg fun h => hq h.2, withdrawn_chargedTo, if_neg hq]
    · rw [traffic.policy, handed_policy]
    · rw [traffic.session, handed_session]
    · rw [endExchange_notices, withdrawn_notices]
    · rw [traffic.touch, handed_touch]

end Sys2Proof.Proofs
end

section
/-! The display filter and the panel arbiter: formation (R126 to R132), masking (R119, R129), the fill (R115) and the take (R134). -/

namespace Sys2Proof.Proofs

open Sys2Proof Sys2Proof.Machine Sys2Proof.Safety

/-! ## The passes of a formation -/

/-- Within a line the cursor moves straight on (R128, R136). -/
theorem steps_within_line {w : Window} {c : Nat × Nat} {m : Nat} (inside : ∀ k, k + 1 < m → ¬ EndsLine w (steps w c k)) :
    ∀ k, k < m → steps w c k =
      match w.order with
      | .row => (c.1 + k, c.2)
      | .column => (c.1, c.2 + k) := by
  intro k hk
  induction k with
  | zero => cases w.order <;> rfl
  | succ k ih =>
    have straight := ih (by omega)
    have open' := inside k hk
    rw [steps_add, straight, steps_succ, steps_zero]
    rw [straight] at open'
    unfold EndsLine at open'
    unfold advance
    cases order : w.order <;> simp only [order] at open' ⊢ <;> rw [if_pos (Nat.not_le.mp open')] <;> rfl

/-- A frame whose remaining pixels are all masked is consumed. -/
theorem form_consumed {x : Screen} {mask : Nat → Nat → Bool} {px : List Half} {n : Nat} {q : List DrawFrame} {w : Window}
    {cx cy : Nat} {next : Option Nat} {freed j a b : Nat}
    (skip : skipMasked mask w cx cy (px.drop (next.getD 0)) = ([], j, a, b)) :
    form x mask (.pixels px n :: q) w cx cy next freed = form x mask q w a b none (freed + n) := by
  simp only [form, skip]

/-- What a formation leaves where the frame at the head gives a run of the pixels `taken`, with the pixels `rest` behind it. -/
theorem form_run {x : Screen} {mask : Nat → Nat → Bool} {px : List Half} {n : Nat} {q : List DrawFrame} {w : Window}
    {cx cy : Nat} {next : Option Nat} {freed j a b c d : Nat} {left taken rest : List Half} (some' : left ≠ [])
    (skip : skipMasked mask w cx cy (px.drop (next.getD 0)) = (left, j, a, b))
    (gathered : gather mask w a b left = (taken, rest, c, d)) :
    form x mask (.pixels px n :: q) w cx cy next freed =
      { released := freed
        run := some { source := .frame x, x := a, y := b, dir := w.order, pixels := taken,
                      last := if rest = [] then some n else none }
        draw := { queue := if rest = [] then q else .pixels px n :: q, window := w, cx := c, cy := d,
                  next := if rest = [] then none else some (next.getD 0 + j + taken.length) } } := by
  obtain ⟨v, vs, rfl⟩ := List.exists_cons_of_ne_nil some'
  simp only [form, skip, gathered]
  cases rest <;> rfl

theorem formFor_eq {s : State} {x : Screen} {q : List DrawFrame} (h : (s.draw x).queue = q) :
    formFor s x = form x (maskFor s x) q (s.draw x).window (s.draw x).cx (s.draw x).cy (s.draw x).next 0 := by
  rw [formFor, h]

/-- Masking does not read the draw states. -/
theorem maskFor_setDraw (s : State) (x : Screen) (v : Draw) : maskFor (s.setDraw x v) x = maskFor s x := by
  cases x <;> rfl

theorem formFor_setDraw (s : State) (x : Screen) (v : Draw) :
    formFor (s.setDraw x v) x = form x (maskFor s x) v.queue v.window v.cx v.cy v.next 0 := by
  rw [formFor, maskFor_setDraw, State.setDraw_draw_self]

/-- The pass over masked pixels of the frame at the head, up to the first that is not masked, or to its end. -/
theorem skipMasked_stops {mask : Nat → Nat → Bool} {w : Window} {cx cy : Nat} {l : List Half} {j : Nat} (hj : j ≤ l.length)
    (masked : ∀ k, k < j → mask (steps w (cx, cy) k).1 (steps w (cx, cy) k).2 = true)
    (stop : j < l.length → mask (steps w (cx, cy) j).1 (steps w (cx, cy) j).2 = false) :
    skipMasked mask w cx cy l = (l.drop j, j, (steps w (cx, cy) j).1, (steps w (cx, cy) j).2) := by
  obtain ⟨i, hi, skipped, stopped, eq⟩ := skipMasked_spec mask w cx cy l
  have : i = j := by
    rcases Nat.lt_trichotomy i j with h | h | h
    · exact absurd (masked i h) (by simp [stopped (by omega)])
    · exact h
    · exact absurd (skipped j h) (by simp [stop (by omega)])
  rw [eq, this]

/-- Every formation does with the head frame what R131 says. -/
theorem formation (s : State) (x : Screen) : Formation s x where
  empty h := by
    rw [formFor_eq h, form, ← h]
  window w n q h := by
    intro f
    have eq : f = form x (maskFor s x) q w w.rect.x0 w.rect.y0 none 0 := formFor_setDraw s x _
    rw [eq, formFor_eq h, form, form_released, Nat.zero_add]
  consumed px n q h := by
    intro d start at' masked f
    have eq : f = form x (maskFor s x) q d.window at'.1 at'.2 none 0 := formFor_setDraw s x _
    have length : (px.drop start).length = px.length - start := List.length_drop
    have skip := skipMasked_stops (mask := maskFor s x) (w := d.window) (cx := d.cx) (cy := d.cy) (l := px.drop start)
      (Nat.le_refl _) (fun k hk => masked k (by omega)) (fun h => absurd h (Nat.lt_irrefl _))
    rw [List.drop_length, length] at skip
    rw [eq, formFor_eq h, form_consumed skip, form_released, Nat.zero_add]
    rfl
  formed px n q j h := by
    intro d start masked more skipped stop
    have length : (px.drop (start + j)).length = px.length - (start + j) := List.length_drop
    have skip : skipMasked (maskFor s x) d.window d.cx d.cy (px.drop start) =
        (px.drop (start + j), j, (cursorAfter d j).1, (cursorAfter d j).2) := by
      rw [← List.drop_drop]
      exact skipMasked_stops (by rw [List.length_drop]; omega) skipped fun _ => stop
    obtain ⟨m, hm, taken, inside, ends, eq⟩ :=
      gather_spec (maskFor s x) d.window (cursorAfter d j).1 (cursorAfter d j).2 (px.drop (start + j))
    have on : ∀ k, steps d.window ((cursorAfter d j).1, (cursorAfter d j).2) k = cursorAfter d (j + k) := fun k => by
      rw [cursorAfter_eq, cursorAfter_eq, steps_add]
    simp only [on] at taken inside ends eq
    rw [length] at hm ends
    have pos : 0 < m := by
      rcases Nat.eq_zero_or_pos m with rfl | pos
      · rcases ends with ⟨h, -⟩ | h | h
        · exact h
        · omega
        · exact absurd h (by simpa using stop)
      · exact pos
    have whole : (px.drop (start + j)).drop m = [] ↔ start + j + m = px.length := by
      rw [List.drop_eq_nil_iff, length]
      omega
    refine ⟨m, pos, by omega, taken, inside, ?_, ?_, ?_⟩
    · rcases ends with ⟨-, h⟩ | h | h
      · exact .inl (by rwa [Nat.add_sub_assoc pos])
      · exact .inr (.inl (by omega))
      · exact .inr (.inr h)
    · intro k hk
      have line := steps_within_line (w := d.window) (c := cursorAfter d j) (m := m) (fun k hk => by
        have := inside k hk
        rwa [← on k] at this) k hk
      rw [← on k, Prod.mk.eta, line]
      unfold runPixel
      cases d.window.order <;> rfl
    · have some' : px.drop (start + j) ≠ [] := fun none => by
        rw [none, List.length_nil] at length
        omega
      rw [formFor_eq h, form_run some' skip eq, List.length_take_of_le (by omega)]
      simp only [whole, h]
      rfl

/-! ## The run formed -/

/-- The run `r` of the source `x` lies in one line of the window of `d`, on unmasked positions, and the cursor stands behind its last
pixel (R131, R136). -/
structure RunLaid (mask : Nat → Nat → Bool) (x : Screen) (d : Draw) (r : Run) : Prop where
  source : r.source = .frame x
  dir : r.dir = d.window.order
  pixels : r.pixels ≠ []
  cursor : (d.cx, d.cy) =
    advance d.window (runPixel r (r.pixels.length - 1)).1 (runPixel r (r.pixels.length - 1)).2
  unmasked : ∀ k, k < r.pixels.length → mask (runPixel r k).1 (runPixel r k).2 = false
  inside : ∀ k, k + 1 < r.pixels.length → ¬ EndsLine d.window (runPixel r k)
  ends : EndsLine d.window (runPixel r (r.pixels.length - 1)) ∨ mask d.cx d.cy = true ∨ r.last.isSome = true
  last : r.last.isSome = true ↔ d.next = none

theorem cursorAfter_succ (d : Draw) (k : Nat) :
    cursorAfter d (k + 1) = advance d.window (cursorAfter d k).1 (cursorAfter d k).2 := by
  rw [cursorAfter_eq, cursorAfter_eq, steps_add, steps_succ, steps_zero]

/-- The frame at the head gives a run where one of its remaining pixels is not masked. -/
theorem runLaid_of_formed {s : State} {x : Screen} {px : List Half} {n j : Nat} {q : List DrawFrame} {r : Run}
    (hq : (s.draw x).queue = .pixels px n :: q) (more : (s.draw x).next.getD 0 + j < px.length)
    (skipped : ∀ k, k < j → maskFor s x (cursorAfter (s.draw x) k).1 (cursorAfter (s.draw x) k).2 = true)
    (stop : maskFor s x (cursorAfter (s.draw x) j).1 (cursorAfter (s.draw x) j).2 = false)
    (hr : (formFor s x).run = some r) : RunLaid (maskFor s x) x (formFor s x).draw r := by
  obtain ⟨m, pos, fits, unmasked, inside, ends, place, eq⟩ := (formation s x).formed px n q j hq more skipped stop
  rw [eq] at hr ⊢
  have length : r.pixels.length = m := by
    rw [← Option.some.inj hr]
    exact List.length_take_of_le (by rw [List.length_drop]; omega)
  have at' : ∀ k, k < m → runPixel r k = cursorAfter (s.draw x) (j + k) := by
    rw [← Option.some.inj hr]
    exact place
  have lastPixel : runPixel r (m - 1) = cursorAfter (s.draw x) (j + (m - 1)) := at' _ (by omega)
  have last : r.last.isSome = true ↔ (s.draw x).next.getD 0 + j + m = px.length := by
    rw [← Option.some.inj hr]
    dsimp only
    split <;> simp_all
  refine ⟨?_, ?_, ?_, ?_, ?_, ?_, ?_, ?_⟩
  · rw [← Option.some.inj hr]
  · rw [← Option.some.inj hr]
  · intro none
    rw [none] at length
    exact absurd length (Nat.ne_of_lt pos)
  · have behind : j + m = j + (m - 1) + 1 := by omega
    rw [length, lastPixel]
    dsimp only
    rw [behind, cursorAfter_succ]
  · intro k hk
    rw [length] at hk
    rw [at' k hk]
    exact unmasked k hk
  · intro k hk
    rw [length] at hk
    rw [at' k (by omega)]
    exact inside k hk
  · rw [length, lastPixel, last, ← Nat.add_sub_assoc pos]
    rcases ends with h | h | h
    · exact .inl h
    · exact .inr (.inr h)
    · exact .inr (.inl h)
  · rw [last]
    dsimp only
    split <;> simp_all

/-- Every run that a formation gives is laid so: by the frames of the draw queue, one after the other (R131). -/
theorem runLaid_of_formFor {x : Screen} {r : Run} (l : List DrawFrame) (s : State) (hq : (s.draw x).queue = l)
    (hr : (formFor s x).run = some r) : RunLaid (maskFor s x) x (formFor s x).draw r := by
  induction l generalizing s with
  | nil =>
    rw [(formation s x).empty hq] at hr
    cases hr
  | cons f q ih =>
    have behind : ∀ (d : Draw) (n : Nat), d.queue = q →
        formFor s x = { formFor (s.setDraw x d) x with released := n + (formFor (s.setDraw x d) x).released } →
        RunLaid (maskFor s x) x (formFor s x).draw r := by
      intro d n hd eq
      rw [eq] at hr ⊢
      have := ih (s.setDraw x d) (by rw [State.setDraw_draw_self, hd]) hr
      rwa [maskFor_setDraw] at this
    cases f with
    | window w n => exact behind _ n rfl ((formation s x).window w n q hq)
    | pixels px n =>
      by_cases masked : ∀ k, (s.draw x).next.getD 0 + k < px.length →
          maskFor s x (cursorAfter (s.draw x) k).1 (cursorAfter (s.draw x) k).2 = true
      · exact behind _ n rfl ((formation s x).consumed px n q hq masked)
      · push Not at masked
        have found := Nat.find_spec masked
        refine runLaid_of_formed hq found.1 (fun k hk => ?_) (Bool.not_eq_true _ |>.mp found.2) hr
        by_contra open'
        exact Nat.find_min masked hk ⟨by have := found.1; omega, open'⟩

/-! ## Masking -/

/-- An AD pixel is masked exactly in a banner row and, out of IDLE, inside the rectangle of the session (R119, R129). -/
theorem adMasked_iff (s : State) (px py : Nat) :
    maskFor s .ad px py = true ↔ py < (activeArea s).bannerRows ∨
      s.session.state ≠ .idle ∧ ∃ q, s.session.record = some q ∧
        q.rect.x0 ≤ px ∧ px ≤ q.rect.x1 ∧ q.rect.y0 ≤ py ∧ py ≤ q.rect.y1 := by
  unfold maskFor adMasked sessionOpen
  cases s.session.record with
  | none => simp
  | some q => simp [Rect.holds, and_assoc]

/-! ## The fill -/

theorem fillRun_of_row {s : State} {q : SessRecord} {f : FillProgress} {colour : Half} (closing : s.session.state = .closing)
    (record : s.session.record = some q) (fill : q.fill = some f) (hc : q.fillColour = some colour) (row : f.next ≤ f.last) :
    fillRun s =
      some { source := .fill, x := q.rect.x0, y := f.next, dir := .row,
             pixels := List.replicate (q.rect.x1 + 1 - q.rect.x0) colour, last := none } := by
  simp only [fillRun, closing, record, fill, if_pos row, hc]
  rfl

theorem fillRun_of_done {s : State} {q : SessRecord} {f : FillProgress} (record : s.session.record = some q)
    (fill : q.fill = some f) (done : f.last < f.next) : fillRun s = none := by
  unfold fillRun
  rw [record]
  cases s.session.state <;> simp [fill, Nat.not_le.mpr done]

theorem fillRun_of_not_closing {s : State} (h : s.session.state ≠ .closing) : fillRun s = none := by
  unfold fillRun
  cases state : s.session.state <;> first | rfl | exact absurd state h

/-! ## The take -/

/-- The state `u` with what the formation for `x` in `s` leaves: the draw state, and the blocks released (R40, R131). -/
def leftBy (s : State) (x : Screen) (u : State) : State :=
  if (s.draw x).queue = [] then u
  else (u.setDraw x (formFor s x).draw).setCharged (portOfScreen x)
    (s.chargedTo (portOfScreen x) - (formFor s x).released)

theorem formFor_run_of_empty {s : State} {x : Screen} (h : (s.draw x).queue = []) : (formFor s x).run = none := by
  rw [(formation s x).empty h]

theorem leftBy_of_empty {s : State} {x : Screen} {u : State} (h : (s.draw x).queue = []) : leftBy s x u = u := if_pos h

theorem leftBy_of_frames {s : State} {x : Screen} {u : State} (h : (s.draw x).queue ≠ []) :
    leftBy s x u =
      (u.setDraw x (formFor s x).draw).setCharged (portOfScreen x)
        (s.chargedTo (portOfScreen x) - (formFor s x).released) := if_neg h

theorem leftBy_run (s : State) (x : Screen) (u : State) : (leftBy s x u).run = u.run := by
  unfold leftBy
  split <;> rfl

theorem leftBy_session (s : State) (x : Screen) (u : State) : (leftBy s x u).session = u.session := by
  unfold leftBy
  split <;> rfl

theorem setRun_none {u : State} (h : u.run = none) : u.setRun none = u := by
  rw [← h]
  rfl

theorem takePd_eq {s : State} (free : s.run = none) : takePd s = (leftBy s .pd s).setRun (formFor s .pd).run := by
  unfold takePd
  by_cases h : (s.draw .pd).queue = []
  · rw [leftBy_of_empty h, if_pos (by simp [h]), formFor_run_of_empty h, setRun_none free]
  · rw [leftBy_of_frames h, if_neg (by simp [h])]
    rfl

/-- What PD's formation leaves is nothing to AD's. -/
theorem formFor_leftBy (s : State) : formFor (leftBy s .pd s) .ad = formFor s .ad := by
  unfold leftBy
  split <;> rfl

theorem leftBy_ad (s : State) : ((leftBy s .pd s).draw .ad).queue = (s.draw .ad).queue ∧
    (leftBy s .pd s).chargedTo .ad = s.chargedTo .ad := by
  unfold leftBy
  split <;> exact ⟨rfl, rfl⟩

theorem takeAd_of_run {u : State} {r : Run} (h : u.run = some r) : takeAd u = u := by
  simp [takeAd, h]

theorem takeAd_eq {s : State} (free : s.run = none) :
    takeAd (leftBy s .pd s) = (leftBy s .ad (leftBy s .pd s)).setRun (formFor s .ad).run := by
  have free' : (leftBy s .pd s).run = none := (leftBy_run s .pd s).trans free
  obtain ⟨queue, charged⟩ := leftBy_ad s
  by_cases h : (s.draw .ad).queue = []
  · rw [formFor_run_of_empty h, leftBy_of_empty h, setRun_none free', takeAd, queue, h]
    simp
  · have waits : ((leftBy s .pd s).run.isNone && !((leftBy s .pd s).draw .ad).queue.isEmpty) = true := by
      simp [free', queue, h]
    rw [takeAd, if_pos waits, takeFor]
    simp only [formFor_leftBy]
    rw [leftBy_of_frames h, release, portOfScreen, State.setDraw_chargedTo, charged]

theorem panelTake_eq {s : State} (free : s.run = none) : panelTake s = takeAd (takeFill (takePd s)) :=
  if_pos (by rw [free]; rfl)

/-- Settles O23: formation, masking, the run formed, the fill run, and the order of the takes. -/
theorem panelTakes : Obligations.PanelTakes := by
  unfold Obligations.PanelTakes
  refine ⟨formation, fun s px py => ⟨rfl, adMasked_iff s px py⟩, fun s x r hr => ?_, fun s r hr k hk => ?_,
    fun s => ⟨fillRun_of_not_closing, fun q f colour closing record fill hc => ⟨fun row => ⟨?_, ?_⟩, ?_⟩⟩,
    fun s => ⟨panelTake_of_run, fun free => ?_⟩⟩
  · have laid := runLaid_of_formFor _ s rfl hr
    exact ⟨laid.source, laid.dir, laid.pixels, laid.cursor, laid.unmasked, laid.inside, laid.ends, laid.last⟩
  · have unmasked : ¬ maskFor s .ad _ _ = true := Bool.eq_false_iff.mp ((runLaid_of_formFor _ s rfl hr).unmasked k hk)
    rw [adMasked_iff] at unmasked
    push Not at unmasked
    refine ⟨unmasked.1, fun q hq busy => ?_⟩
    have outside := unmasked.2 busy q hq
    simp only [Rect.holds, Bool.and_eq_false_iff, decide_eq_false_iff_not]
    omega
  · exact fillRun_of_row closing record fill hc row
  · simp only [nextFillRow, editRecord, State.setSession_session, record, Option.map_some, fill]
  · exact fillRun_of_done record fill
  · have busy : ∀ r, takeAd ((leftBy s .pd s).setRun (some r)) = (leftBy s .pd s).setRun (some r) :=
      fun r => takeAd_of_run (State.setRun_run _ _)
    refine ⟨fun r hr => ?_, fun none => ?_⟩
    · rw [panelTake_eq free, takePd_eq free, hr, takeFill]
      exact busy r
    · have pd : takePd s = leftBy s .pd s := by
        rw [takePd_eq free, none, setRun_none ((leftBy_run s .pd s).trans free)]
      have fills : fillRun (leftBy s .pd s) = fillRun s := by
        unfold fillRun
        rw [leftBy_session]
      have run : (leftBy s .pd s).run = Option.none := (leftBy_run s .pd s).trans free
      rw [panelTake_eq free, pd, takeFill, run, fills]
      refine ⟨fun r hr => ?_, fun hn => ?_⟩
      · rw [hr]
        exact takeAd_of_run (r := r) rfl
      · rw [hn]
        exact takeAd_eq free

end Sys2Proof.Proofs
end

section
/-! The area switch (R32, R33, R63, R81, R95 to R98): the work queued on one number, one number, all numbers, and what ends the
switch. -/

namespace Sys2Proof.Proofs

open Sys2Proof Sys2Proof.Machine Sys2Proof.Safety

/-! ## Part frames only join -/

/-- Frames only join the internal part-frame queues, at their tails. -/
def PartsGrow (s t : State) : Prop := ∀ p, ∃ more, (t.arb p).iq = (s.arb p).iq ++ more

theorem PartsGrow.refl (s : State) : PartsGrow s s := fun _ => ⟨[], (List.append_nil _).symm⟩

theorem PartsGrow.trans {s t u : State} (h : PartsGrow s t) (k : PartsGrow t u) : PartsGrow s u := fun p => by
  obtain ⟨a, ha⟩ := h p
  obtain ⟨b, hb⟩ := k p
  exact ⟨a ++ b, by rw [hb, ha, List.append_assoc]⟩

theorem PartsGrow.mem {s t : State} (h : PartsGrow s t) {p : Port} {f : IFrame} (hf : f ∈ (s.arb p).iq) : f ∈ (t.arb p).iq := by
  obtain ⟨more, eq⟩ := h p
  rw [eq]
  exact List.mem_append_left _ hf

theorem endExchange_partsGrow (e : EntryIx) (st : Status) (s : State) : PartsGrow s (endExchange e st s) := by
  intro q
  by_cases told : Tells s e st ∧ q = (s.entry e).responder
  · exact ⟨_, (endExchange_iq q).1 told.1 told.2⟩
  · exact ⟨[], by rw [(endExchange_iq q).2 told, List.append_nil]⟩

theorem discardPost_iq (c : Chn) (why : Reason) (m : PostItem) (s : State) (q : Port) :
    ((discardPost c why m s).arb q).iq =
      if q = m.sender then (s.arb q).iq ++ [{ what := .verdict why 0x03#8 [chnByte c, m.label], block := .charged }]
      else (s.arb q).iq := by
  simp only [discardPost, verdict, answer, pushPart_arb, release, State.setCharged_arb]
  split
  · rename_i hq
    rw [hq]
    rfl
  · rfl

theorem discardPost_partsGrow (c : Chn) (why : Reason) (m : PostItem) (s : State) : PartsGrow s (discardPost c why m s) := by
  intro q
  rw [discardPost_iq]
  split
  · exact ⟨_, rfl⟩
  · exact ⟨[], (List.append_nil _).symm⟩

/-! ## The exchanges that a re-check ends -/

/-- From `s` to `t` the exchange `e` has ended REVOKED, with a WITHDRAW where R63 asks for one. -/
structure EndedRevoked (s t : State) (e : EntryIx) : Prop where
  st : (t.entry e).st = .replying
  status : (t.entry e).status = some .revoked
  req : (t.entry e).req = none
  withdrawn : Withdrawn s t e

/-- What comes after leaves an ended exchange as it is. -/
theorem EndedRevoked.after {s t u : State} {e : EntryIx} (h : EndedRevoked s t e) (entry : u.entry e = t.entry e)
    (grow : PartsGrow t u) : EndedRevoked s u e := by
  refine ⟨by rw [entry, h.st], by rw [entry, h.status], by rw [entry, h.req], fun told => ?_, fun untold => ?_⟩
  · obtain ⟨set, frame⟩ := h.withdrawn.1 told
    exact ⟨by rw [entry, set], grow.mem frame⟩
  · rw [entry, h.withdrawn.2 untold]

/-- What came before has left the exchange and the links as they were. -/
theorem EndedRevoked.before {s t u : State} {e : EntryIx} (h : EndedRevoked t u e) (entry : t.entry e = s.entry e)
    (links : t.links = s.links) : EndedRevoked s u e := by
  have link : ∀ p, t.link p = s.link p := fun p => by simp only [State.link, links]
  have told := h.withdrawn
  unfold Withdrawn at told
  rw [entry, link] at told
  exact ⟨h.st, h.status, h.req, told⟩

/-- An item of a forward queue stays where its request is none of `gone`. -/
def spares (gone : EntryIx → Bool) : FwdItem → Bool
  | .request e => !gone e
  | .post _ => true

/-- From `s` to `t` the exchanges `gone` of number `c` have ended REVOKED: those of `retries` have left its waiting retries, those of
`forward` its forward queue, and their replies have joined its return queue. -/
structure Revokes (c : Chn) (retries forward : EntryIx → Bool) (s t : State) : Prop where
  traffic : Traffic s t
  notices : t.notices = s.notices
  links : t.links = s.links
  other : ∀ d, d ≠ c → t.chan d = s.chan d
  own : ∃ more, t.chan c =
    { s.chan c with
      retries := (s.chan c).retries.filter (fun e => !retries e)
      fwd := (s.chan c).fwd.filter (spares forward)
      ret := (s.chan c).ret ++ more }
  kept : ∀ e, retries e = false → forward e = false → t.entry e = s.entry e
  ended : ∀ e, retries e = true ∨ forward e = true → EndedRevoked s t e
  parts : PartsGrow s t

theorem spares_none (x : FwdItem) : spares (fun _ => false) x = true := by cases x <;> rfl

/-- A step that touches neither the channels nor the exchanges, and only adds part frames, ends no exchange. -/
theorem Revokes.none (c : Chn) {s t : State} (traffic : Traffic s t) (notices : t.notices = s.notices) (links : t.links = s.links)
    (chans : t.chans = s.chans) (exch : t.exch = s.exch) (parts : PartsGrow s t) :
    Revokes c (fun _ => false) (fun _ => false) s t where
  traffic := traffic
  notices := notices
  links := links
  other d _ := by simp only [State.chan, chans]
  own := ⟨[], by
    have keep : (s.chan c).fwd.filter (spares fun _ => false) = (s.chan c).fwd :=
      List.filter_eq_self.mpr fun x _ => spares_none x
    have all : (s.chan c).retries.filter (fun _ => !false) = (s.chan c).retries := List.filter_eq_self.mpr fun _ _ => rfl
    rw [keep, all, List.append_nil]
    simp only [State.chan, chans]⟩
  kept e _ _ := by simp only [State.entry, exch]
  ended e h := by rcases h with h | h <;> cases h
  parts := parts

theorem Revokes.trans {c : Chn} {rs fs rs' fs' : EntryIx → Bool} {s t u : State} (h : Revokes c rs fs s t)
    (k : Revokes c rs' fs' t u) (apart : ∀ e, rs e = true ∨ fs e = true → rs' e = false ∧ fs' e = false) :
    Revokes c (fun e => rs e || rs' e) (fun e => fs e || fs' e) s u where
  traffic := h.traffic.trans k.traffic
  notices := k.notices.trans h.notices
  links := k.links.trans h.links
  other d hd := (k.other d hd).trans (h.other d hd)
  own := by
    obtain ⟨a, ha⟩ := h.own
    obtain ⟨b, hb⟩ := k.own
    refine ⟨a ++ b, ?_⟩
    rw [hb, ha]
    simp only [List.filter_filter, List.append_assoc]
    congr 1
    · refine List.filter_congr fun x _ => ?_
      cases x with
      | request e => simp [spares, Bool.and_comm]
      | post m => rfl
    · exact List.filter_congr fun e _ => by simp [Bool.and_comm]
  kept e hr hf := by
    rw [Bool.or_eq_false_iff] at hr hf
    exact (k.kept e hr.2 hf.2).trans (h.kept e hr.1 hf.1)
  ended e he := by
    by_cases first : rs e = true ∨ fs e = true
    · obtain ⟨r, f⟩ := apart e first
      exact (h.ended e first).after (k.kept e r f) k.parts
    · push Not at first
      obtain ⟨r, f⟩ := first
      rw [ne_eq, Bool.not_eq_true] at r f
      have second : rs' e = true ∨ fs' e = true := by simpa [r, f] using he
      exact (k.ended e second).before (h.kept e r f) h.links
  parts := h.parts.trans k.parts

/-- Steps that each end exchanges of `c`, no two steps about the same exchange, one after the other. -/
theorem Revokes.foldl {α : Type} {c : Chn} {f : State → α → State} {rs fs : α → EntryIx → Bool} {about : α → EntryIx → Prop}
    {b : State} (concerns : ∀ a e, rs a e = true ∨ fs a e = true → about a e) (l : List α)
    (step : ∀ a ∈ l, ∀ v, v.policy = b.policy → (∀ e, about a e → v.entry e = b.entry e) → Revokes c (rs a) (fs a) v (f v a))
    (apart : l.Pairwise fun x y => ∀ e, about x e → ¬ about y e)
    (v : State) (policy : v.policy = b.policy) (same : ∀ a ∈ l, ∀ e, about a e → v.entry e = b.entry e) :
    Revokes c (fun e => l.any (rs · e)) (fun e => l.any (fs · e)) v (l.foldl f v) := by
  have leaves : ∀ a e, ¬ about a e → rs a e = false ∧ fs a e = false := fun a e none => by
    constructor <;> rw [Bool.eq_false_iff] <;> intro gone
    · exact none (concerns a e (.inl gone))
    · exact none (concerns a e (.inr gone))
  induction l generalizing v with
  | nil => exact Revokes.none c (Traffic.refl v) rfl rfl rfl rfl (.refl v)
  | cons a l ih =>
    obtain ⟨head, tail⟩ := List.pairwise_cons.mp apart
    have first := step a List.mem_cons_self v policy (same a List.mem_cons_self)
    have rest := ih (fun y hy => step y (List.mem_cons_of_mem _ hy)) tail (f v a) (first.traffic.policy.trans policy)
      (fun y hy e he => by
        obtain ⟨r, k⟩ := leaves a e fun both => head y hy e both he
        rw [first.kept e r k, same y (List.mem_cons_of_mem _ hy) e he])
    simp only [List.any_cons, List.foldl_cons]
    refine first.trans rest fun e he => ?_
    have later : ∀ y ∈ l, rs y e = false ∧ fs y e = false := fun y hy => leaves y e (head y hy e (concerns a e he))
    exact ⟨List.any_eq_false.mpr fun y hy => Bool.eq_false_iff.mp (later y hy).1,
      List.any_eq_false.mpr fun y hy => Bool.eq_false_iff.mp (later y hy).2⟩

/-! ## One exchange -/

/-- An end REVOKED from a state `v` that differs from `s` only in the queues of `c`. -/
theorem endExchange_revokes {c : Chn} {e : EntryIx} {s v : State} {rs fs : EntryIx → Bool} (ce : (s.entry e).chan = c)
    (gone : ∀ d, (rs d || fs d) = decide (d = e)) (leave : v = s.setChan c
      { s.chan c with
        retries := (s.chan c).retries.filter (fun d => !rs d)
        fwd := (s.chan c).fwd.filter (spares fs) }) :
    Revokes c rs fs s (endExchange e .revoked v) := by
  have entries : ∀ d, v.entry d = s.entry d := fun d => by rw [leave, State.setChan_entry]
  have links : ∀ p, v.link p = s.link p := fun p => by rw [leave]; rfl
  have parts : PartsGrow s v := fun p => ⟨[], by rw [leave, List.append_nil]; rfl⟩
  have ended : EndedRevoked s (endExchange e .revoked v) e := by
    obtain ⟨w, entry⟩ := endExchange_entry e .revoked v
    refine ⟨by rw [entry], by rw [entry], by rw [entry], fun told => ?_, fun untold => ?_⟩
    · have tells : Tells v e .revoked := ⟨rfl, by rw [entries, links]; exact told⟩
      refine ⟨by rw [endExchange_entry_told tells], ?_⟩
      rw [← entries, (endExchange_iq _).1 tells rfl]
      exact List.mem_append_right _ List.mem_cons_self
    · have quiet : ¬ Tells v e .revoked := fun tells => untold (by rw [← entries, ← links]; exact tells.2)
      rw [endExchange_entry_untold quiet, entries]
  exact {
    traffic := by rw [leave]; exact (Traffic.setChan _ _ _).trans (endExchange_traffic _ _ _)
    notices := by rw [endExchange_notices, leave]; rfl
    links := by rw [endExchange_links, leave]; rfl
    other := fun d hd => by rw [endExchange_chan, entries, ce, if_neg hd, leave, State.setChan_chan, if_neg hd]
    own := ⟨[{ entry := e, frame := none }], by
      rw [endExchange_chan, entries, ce, if_pos rfl, leave, State.setChan_chan_self]⟩
    kept := fun d hr hf => by
      have other : d ≠ e := of_decide_eq_false (by rw [← gone, hr, hf]; rfl)
      rw [endExchange_entry_ne _ _ other, entries]
    ended := fun d hd => by
      obtain rfl : d = e := of_decide_eq_true (by rw [← gone]; simpa using hd)
      exact ended
    parts := parts.trans (endExchange_partsGrow _ _ _) }

theorem filter_not_false {α : Type} (l : List α) : l.filter (fun _ => !false) = l := List.filter_eq_self.mpr fun _ _ => rfl

theorem filter_spares_none (l : List FwdItem) : l.filter (spares fun _ => false) = l :=
  List.filter_eq_self.mpr fun x _ => spares_none x

theorem leaveRetries_eq {c : Chn} {e : EntryIx} {s : State} (ce : (s.entry e).chan = c) :
    leaveRetries e s = s.setChan c
      { s.chan c with
        retries := (s.chan c).retries.filter (fun d => !decide (d = e))
        fwd := (s.chan c).fwd.filter (spares fun _ => false) } := by
  subst ce
  rw [filter_spares_none]
  rfl

theorem leaveForward_eq {c : Chn} {e : EntryIx} {s : State} (ce : (s.entry e).chan = c) :
    leaveForward e s = s.setChan c
      { s.chan c with
        retries := (s.chan c).retries.filter (fun _ => !false)
        fwd := (s.chan c).fwd.filter (spares fun d => decide (d = e)) } := by
  subst ce
  have items : (s.chan (s.entry e).chan).fwd.filter (· != .request e) =
      (s.chan (s.entry e).chan).fwd.filter (spares fun d => decide (d = e)) := by
    refine List.filter_congr fun x _ => ?_
    cases x with
    | request d => exact Bool.eq_iff_iff.mpr (by simp [spares])
    | post m => rfl
  rw [filter_not_false, ← items]
  rfl

/-- The requests of a forward queue that do not pass the re-check. -/
def refuses (s : State) (r : Option ChannelRecord) (a e : EntryIx) : Bool := decide (e = a) && !requestAllowed s r e

/-- The same, item by item. -/
def refusesItem (s : State) (r : Option ChannelRecord) (x : FwdItem) (e : EntryIx) : Bool :=
  match x with
  | .request a => refuses s r a e
  | .post _ => false

theorem requestAllowed_congr {s t : State} {e : EntryIx} (h : t.entry e = s.entry e) (r : Option ChannelRecord) :
    requestAllowed t r e = requestAllowed s r e := by
  simp only [requestAllowed, reqLength, h]

theorem recordOf_congr {s t : State} (h : t.policy = s.policy) (c : Chn) : recordOf t c = recordOf s c := by
  unfold recordOf activeArea areaOfId
  rw [h]

theorem refuses_of_allowed {s : State} {r : Option ChannelRecord} {a : EntryIx} (h : requestAllowed s r a = true) :
    refuses s r a = fun _ => false := by
  funext e
  unfold refuses
  by_cases he : e = a
  · rw [he, h]; simp
  · simp [he]

theorem refuses_of_not_allowed {s : State} {r : Option ChannelRecord} {a : EntryIx} (h : requestAllowed s r a = false) :
    refuses s r a = fun e => decide (e = a) := by
  funext e
  unfold refuses
  by_cases he : e = a
  · rw [he, h]; simp
  · simp [he]

theorem recheckRetry_revokes {c : Chn} {a : EntryIx} {b v : State} (policy : v.policy = b.policy)
    (same : v.entry a = b.entry a) (ca : (b.entry a).chan = c) :
    Revokes c (refuses b (recordOf b c) a) (fun _ => false) v (recheckRetry c a v) := by
  unfold recheckRetry
  rw [recordOf_congr policy, requestAllowed_congr same]
  cases allowed : requestAllowed b (recordOf b c) a
  · rw [refuses_of_not_allowed allowed]
    exact endExchange_revokes (by rw [same, ca]) (fun d => Bool.or_false _) (leaveRetries_eq (by rw [same, ca]))
  · rw [refuses_of_allowed allowed]
    exact Revokes.none c (Traffic.refl v) rfl rfl rfl rfl (.refl v)

theorem recheckItem_revokes {c : Chn} {x : FwdItem} {b v : State} (policy : v.policy = b.policy)
    (same : ∀ a, x = .request a → v.entry a = b.entry a) (cx : ∀ a, x = .request a → (b.entry a).chan = c) :
    Revokes c (fun _ => false) (refusesItem b (recordOf b c) x) v (recheckItem c x v) := by
  cases x with
  | request a =>
    have ca := cx a rfl
    have same := same a rfl
    unfold recheckItem refusesItem
    dsimp only
    rw [recordOf_congr policy, requestAllowed_congr same]
    cases allowed : requestAllowed b (recordOf b c) a
    · rw [refuses_of_not_allowed allowed]
      exact endExchange_revokes (by rw [same, ca]) (fun d => Bool.false_or _) (leaveForward_eq (by rw [same, ca]))
    · rw [refuses_of_allowed allowed]
      exact Revokes.none c (Traffic.refl v) rfl rfl rfl rfl (.refl v)
  | post m =>
    unfold recheckItem
    dsimp only
    split
    · exact Revokes.none c (Traffic.refl v) rfl rfl rfl rfl (.refl v)
    · exact Revokes.none c (discardPost_traffic _ _ _ _) rfl rfl rfl rfl (discardPost_partsGrow _ _ _ _)

/-! ## The posts that a re-check discards -/

theorem leaveForward_partsGrow (e : EntryIx) (s : State) : PartsGrow s (leaveForward e s) :=
  fun _ => ⟨[], (List.append_nil _).symm⟩

theorem recheckItem_partsGrow (c : Chn) (x : FwdItem) (s : State) : PartsGrow s (recheckItem c x s) := by
  cases x with
  | request e =>
    unfold recheckItem
    dsimp only
    split
    · exact .refl s
    · exact (leaveForward_partsGrow e s).trans (endExchange_partsGrow _ _ _)
  | post m =>
    unfold recheckItem
    dsimp only
    split
    · exact .refl s
    · exact discardPost_partsGrow _ _ _ _

theorem recheckItems_partsGrow (c : Chn) (l : List FwdItem) (s : State) :
    PartsGrow s (l.foldl (fun s x => recheckItem c x s) s) := by
  induction l generalizing s with
  | nil => exact .refl s
  | cons x l ih => exact (recheckItem_partsGrow c x s).trans (ih _)

/-- The record `r` allows the post `m` (R96). -/
def postAllowed (r : Option ChannelRecord) (m : PostItem) : Bool := recordAllows r true m.sender m.peer m.kind m.payload.length

/-- Every post that the record does not allow gets its verdict REVOKED. -/
theorem recheckItems_verdict {c : Chn} {m : PostItem} {l : List FwdItem} (hm : .post m ∈ l) (s : State)
    (refused : postAllowed (recordOf s c) m = false) :
    { what := .verdict .revoked 0x03#8 [chnByte c, m.label], block := .charged } ∈
      ((l.foldl (fun s x => recheckItem c x s) s).arb m.sender).iq := by
  induction l generalizing s with
  | nil => cases hm
  | cons x l ih =>
    rw [List.foldl_cons]
    rcases List.mem_cons.mp hm with rfl | later
    · refine (recheckItems_partsGrow c l _).mem ?_
      have discarded : recheckItem c (.post m) s = discardPost c .revoked m s := by
        unfold postAllowed at refused
        simp [recheckItem, refused]
      rw [discarded, discardPost_iq, if_pos rfl]
      exact List.mem_append_right _ List.mem_cons_self
    · exact ih later _ (by rw [recordOf_congr (recheckItem_traffic c x s).policy, refused])

/-! ## One number -/

/-- The requests queued on `c` are its own, and none is queued twice. -/
structure QueuedOn (s : State) (c : Chn) : Prop where
  retry : ∀ e ∈ (s.chan c).retries, (s.entry e).fwdOnce = true ∧ (s.entry e).chan = c
  waiting : ∀ e, FwdItem.request e ∈ (s.chan c).fwd → (s.entry e).fwdOnce = false ∧ (s.entry e).chan = c
  retriesOnce : (s.chan c).retries.Nodup
  waitingOnce : (requestsOf (s.chan c).fwd).Nodup

theorem queuedOn_of_exchangesOk {s : State} (h : ExchangesOk s) (c : Chn) : QueuedOn s c where
  retry e he := (h.retry c e he).2
  waiting e he := (h.waiting c e he).2
  retriesOnce := h.retriesOnce c
  waitingOnce := h.waitingOnce c

/-- The exchange `e` is queued on `c` and the record `r` does not allow its request. -/
def Refused (s : State) (r : Option ChannelRecord) (c : Chn) (e : EntryIx) : Prop :=
  (e ∈ (s.chan c).retries ∨ .request e ∈ (s.chan c).fwd) ∧ requestAllowed s r e = false

/-- An item of a forward queue passes the re-check against `r`. -/
def passes (s : State) (r : Option ChannelRecord) : FwdItem → Bool
  | .request e => requestAllowed s r e
  | .post m => postAllowed r m

theorem any_refuses {s : State} {r : Option ChannelRecord} {l : List EntryIx} {e : EntryIx} :
    l.any (refuses s r · e) = true ↔ e ∈ l ∧ requestAllowed s r e = false := by
  simp only [List.any_eq_true, refuses, Bool.and_eq_true, decide_eq_true_eq, Bool.not_eq_true']
  exact ⟨fun ⟨a, ha, he, no⟩ => ⟨he ▸ ha, no⟩, fun ⟨he, no⟩ => ⟨e, he, rfl, no⟩⟩

theorem refusesItem_iff {s : State} {r : Option ChannelRecord} {x : FwdItem} {e : EntryIx} :
    refusesItem s r x e = true ↔ x = .request e ∧ requestAllowed s r e = false := by
  cases x with
  | request a =>
    simp only [refusesItem, refuses, Bool.and_eq_true, decide_eq_true_eq, Bool.not_eq_true', FwdItem.request.injEq]
    exact and_congr_left fun _ => eq_comm
  | post m => simp [refusesItem]

theorem any_refusesItem {s : State} {r : Option ChannelRecord} {l : List FwdItem} {e : EntryIx} :
    l.any (refusesItem s r · e) = true ↔ .request e ∈ l ∧ requestAllowed s r e = false := by
  simp only [List.any_eq_true, refusesItem_iff]
  exact ⟨fun ⟨x, hx, he, no⟩ => ⟨he ▸ hx, no⟩, fun ⟨he, no⟩ => ⟨_, he, rfl, no⟩⟩

theorem mem_requestsOf {l : List FwdItem} {e : EntryIx} : e ∈ requestsOf l ↔ .request e ∈ l := by
  simp only [requestsOf, List.mem_filterMap]
  refine ⟨fun ⟨x, hx, eq⟩ => ?_, fun h => ⟨_, h, rfl⟩⟩
  cases x <;> cases eq
  exact hx

/-- No request stands twice in a forward queue, so no two of its items are the same request. -/
theorem requests_apart {l : List FwdItem} (once : (requestsOf l).Nodup) :
    l.Pairwise fun x y => ∀ e, x = .request e → ¬ y = .request e := by
  induction l with
  | nil => exact .nil
  | cons x l ih =>
    cases x with
    | request a =>
      obtain ⟨notIn, once⟩ := List.nodup_cons.mp (show (a :: requestsOf l).Nodup from once)
      refine .cons (fun y hy e he same => notIn ?_) (ih once)
      cases he
      exact mem_requestsOf.mpr (same ▸ hy)
    | post m => exact .cons (fun y _ e he => by cases he) (ih once)

/-- The re-check of number `c` under the record `r`. -/
structure Rechecks (c : Chn) (r : Option ChannelRecord) (s t : State) : Prop where
  traffic : Traffic s t
  notices : t.notices = s.notices
  links : t.links = s.links
  other : ∀ d, d ≠ c → t.chan d = s.chan d
  own : ∃ more, t.chan c =
    { s.chan c with
      retries := (s.chan c).retries.filter (requestAllowed s r)
      fwd := (s.chan c).fwd.filter (passes s r)
      ret := (s.chan c).ret ++ more }
  kept : ∀ e, ¬ Refused s r c e → t.entry e = s.entry e
  ended : ∀ e, Refused s r c e → EndedRevoked s t e
  verdicts : ∀ m, .post m ∈ (s.chan c).fwd → postAllowed r m = false →
    { what := .verdict .revoked 0x03#8 [chnByte c, m.label], block := .charged } ∈ (t.arb m.sender).iq
  parts : PartsGrow s t

/-- The waiting retries that the record does not allow end. -/
theorem recheckRetries_revokes {c : Chn} {s : State} (q : QueuedOn s c) :
    Revokes c (fun e => (s.chan c).retries.any (refuses s (recordOf s c) · e)) (fun _ => false) s
      ((s.chan c).retries.foldl (fun s e => recheckRetry c e s) s) := by
  have ends := Revokes.foldl (c := c) (b := s) (f := fun s e => recheckRetry c e s) (rs := fun a => refuses s (recordOf s c) a)
    (fs := fun _ _ => false) (about := fun a e => a = e) (l := (s.chan c).retries)
    (fun a e h => by
      rcases h with h | h
      · simp only [refuses, Bool.and_eq_true, decide_eq_true_eq] at h
        exact h.1.symm
      · cases h)
    (fun a ha v policy same => recheckRetry_revokes policy (same a rfl) (q.retry a ha).2)
    (q.retriesOnce.imp fun apart e h k => apart (h.trans k.symm)) s rfl (fun _ _ _ _ => rfl)
  have none : (fun e : EntryIx => (s.chan c).retries.any fun _ => false) = fun _ => false := by
    funext e
    exact List.any_eq_false.mpr fun _ _ => Bool.false_ne_true
  rw [none] at ends
  exact ends

/-- The requests of the forward queue that the record does not allow end, once the retries are seen to. -/
theorem recheckItems_revokes {c : Chn} {s v : State} (q : QueuedOn s c) (policy : v.policy = s.policy)
    (same : ∀ e, FwdItem.request e ∈ (s.chan c).fwd → v.entry e = s.entry e) :
    Revokes c (fun _ => false) (fun e => (s.chan c).fwd.any (refusesItem s (recordOf s c) · e)) v
      ((s.chan c).fwd.foldl (fun s x => recheckItem c x s) v) := by
  have ends := Revokes.foldl (c := c) (b := s) (f := fun s x => recheckItem c x s) (rs := fun _ _ => false)
    (fs := fun x => refusesItem s (recordOf s c) x) (about := fun x e => x = .request e) (l := (s.chan c).fwd)
    (fun x e h => by
      rcases h with h | h
      · cases h
      · exact (refusesItem_iff.mp h).1)
    (fun x hx v policy same => recheckItem_revokes policy (fun a ha => same a ha)
      fun a ha => (q.waiting a (ha ▸ hx)).2)
    (requests_apart q.waitingOnce) v policy (fun x hx e he => same e (he ▸ hx))
  have none : (fun e : EntryIx => (s.chan c).fwd.any fun _ => false) = fun _ => false := by
    funext e
    exact List.any_eq_false.mpr fun _ _ => Bool.false_ne_true
  rw [none] at ends
  exact ends

/-- A post leaves the forward queue where the record does not allow it. -/
def sweeps (r : Option ChannelRecord) : FwdItem → Bool
  | .request _ => true
  | .post m => postAllowed r m

theorem sweepPosts_eq (c : Chn) (s : State) :
    sweepPosts c s = s.setChan c { s.chan c with fwd := (s.chan c).fwd.filter (sweeps (recordOf s c)) } := by
  have items : (s.chan c).fwd.filter (fun i =>
      match i with
      | .request _ => true
      | .post m => recordAllows (recordOf s c) true m.sender m.peer m.kind m.payload.length) =
      (s.chan c).fwd.filter (sweeps (recordOf s c)) :=
    List.filter_congr fun x _ => by cases x <;> rfl
  exact congrArg (fun kept => s.setChan c { s.chan c with fwd := kept }) items

theorem recheck_rechecks {c : Chn} {s : State} (q : QueuedOn s c) : Rechecks c (recordOf s c) s (recheck c s) := by
  have retries := recheckRetries_revokes q
  have waits : ∀ e, FwdItem.request e ∈ (s.chan c).fwd → e ∉ (s.chan c).retries := fun e he hr => by
    have once := (q.retry e hr).1
    rw [(q.waiting e he).1] at once
    cases once
  have untouched : ∀ e, FwdItem.request e ∈ (s.chan c).fwd → (s.chan c).retries.any (refuses s (recordOf s c) · e) = false :=
    fun e he => Bool.eq_false_iff.mpr fun gone => waits e he (any_refuses.mp gone).1
  have items := recheckItems_revokes q retries.traffic.policy fun e he => retries.kept e (untouched e he) rfl
  have both := retries.trans items fun e he => by
    refine ⟨rfl, Bool.eq_false_iff.mpr fun gone => ?_⟩
    rw [untouched e (any_refusesItem.mp gone).1] at he
    rcases he with he | he <;> cases he
  have refused : ∀ e, (((s.chan c).retries.any (refuses s (recordOf s c) · e) || false) = true ∨
      (false || (s.chan c).fwd.any (refusesItem s (recordOf s c) · e)) = true) ↔ Refused s (recordOf s c) c e := fun e => by
    rw [Bool.or_false, Bool.false_or, any_refuses, any_refusesItem, ← or_and_right]
    rfl
  have shape : recheck c s = sweepPosts c ((s.chan c).fwd.foldl (fun s x => recheckItem c x s)
      ((s.chan c).retries.foldl (fun s e => recheckRetry c e s) s)) := rfl
  generalize hw : (s.chan c).fwd.foldl (fun s x => recheckItem c x s)
    ((s.chan c).retries.foldl (fun s e => recheckRetry c e s) s) = w at shape both
  rw [shape, sweepPosts_eq, recordOf_congr both.traffic.policy]
  refine ⟨both.traffic.trans (Traffic.setChan _ _ _), both.notices, both.links, fun d hd => ?_, ?_, fun e none => ?_,
    fun e gone => ((both.ended e ((refused e).mpr gone)).after (State.setChan_entry ..) fun p => ⟨[], (List.append_nil _).symm⟩),
    fun m hm no => ?_, both.parts⟩
  · rw [State.setChan_chan, if_neg hd, both.other d hd]
  · obtain ⟨more, own⟩ := both.own
    refine ⟨more, ?_⟩
    rw [State.setChan_chan_self, own]
    have retriesLeft : (s.chan c).retries.filter
        (fun e => !((s.chan c).retries.any (refuses s (recordOf s c) · e) || false)) =
        (s.chan c).retries.filter (requestAllowed s (recordOf s c)) := by
      refine List.filter_congr fun e he => ?_
      rw [Bool.or_false, Bool.not_eq_eq_eq_not, Bool.eq_iff_iff, any_refuses, Bool.not_eq_true']
      exact and_iff_right he
    have itemsLeft : ((s.chan c).fwd.filter
        (spares fun e => false || (s.chan c).fwd.any (refusesItem s (recordOf s c) · e))).filter (sweeps (recordOf s c)) =
        (s.chan c).fwd.filter (passes s (recordOf s c)) := by
      rw [List.filter_filter]
      refine List.filter_congr fun x hx => ?_
      cases x with
      | request e =>
        simp only [sweeps, spares, passes, Bool.true_and, Bool.false_or]
        rw [Bool.not_eq_eq_eq_not, Bool.eq_iff_iff, any_refusesItem, Bool.not_eq_true']
        exact and_iff_right hx
      | post m => exact Bool.and_true _
    dsimp only at retriesLeft itemsLeft ⊢
    rw [retriesLeft, itemsLeft]
  · have still := not_or.mp fun h => none ((refused e).mp h)
    rw [Bool.not_eq_true, Bool.not_eq_true] at still
    exact both.kept e still.1 still.2
  · have told := recheckItems_verdict hm ((s.chan c).retries.foldl (fun s e => recheckRetry c e s) s)
      (by rw [recordOf_congr retries.traffic.policy]; exact no)
    rw [hw] at told
    exact told

/-! ## All numbers -/

theorem switchRuntime_queues (k : SwitchCase) (now : Time) (ch : Chan) :
    (switchRuntime k now ch).fwd = ch.fwd ∧ (switchRuntime k now ch).retries = ch.retries ∧
      (switchRuntime k now ch).ret = ch.ret ∧ (switchRuntime k now ch).outstanding = ch.outstanding ∧
      (switchRuntime k now ch).lastRefill = none := by
  cases k <;> exact ⟨rfl, rfl, rfl, rfl, rfl⟩

/-- The runtime of `c` after a switch from the area `before`, but for its queued work. -/
def switchedRuntime (before : Area) (b : State) (c : Chn) : Chan :=
  switchRuntime (switchCase (before.recs.get c) (recordOf b c)) b.time (b.chan c)

/-- From `b`, the state with the new selector, to `t` the numbers `l` have been switched, and no other. -/
structure SwitchedOver (before : Area) (b : State) (l : List Chn) (t : State) : Prop where
  traffic : Traffic b t
  notices : t.notices = b.notices
  links : t.links = b.links
  waiting : ∀ c, c ∉ l → t.chan c = b.chan c
  own : ∀ c ∈ l, ∃ more, t.chan c =
    { switchedRuntime before b c with
      retries := (b.chan c).retries.filter (requestAllowed b (recordOf b c))
      fwd := (b.chan c).fwd.filter (passes b (recordOf b c))
      ret := (b.chan c).ret ++ more }
  kept : ∀ e, (∀ c ∈ l, ¬ Refused b (recordOf b c) c e) → t.entry e = b.entry e
  ended : ∀ c ∈ l, ∀ e, Refused b (recordOf b c) c e → EndedRevoked b t e
  verdicts : ∀ c ∈ l, ∀ m, .post m ∈ (b.chan c).fwd → postAllowed (recordOf b c) m = false →
    { what := .verdict .revoked 0x03#8 [chnByte c, m.label], block := .charged } ∈ (t.arb m.sender).iq
  parts : PartsGrow b t

theorem SwitchedOver.nil (before : Area) (b : State) : SwitchedOver before b [] b where
  traffic := .refl b
  notices := rfl
  links := rfl
  waiting _ _ := rfl
  own _ h := by cases h
  kept _ _ := rfl
  ended _ h := by cases h
  verdicts _ h := by cases h
  parts := .refl b

theorem Refused.chan {b : State} {r : Option ChannelRecord} {c : Chn} {e : EntryIx} (q : QueuedOn b c) (h : Refused b r c e) :
    (b.entry e).chan = c := by
  rcases h.1 with retry | waiting
  · exact (q.retry e retry).2
  · exact (q.waiting e waiting).2

/-- A state in which the queues of `c` and the exchanges on them are as in `b`. -/
structure SameQueues (c : Chn) (b v : State) : Prop where
  retries : (v.chan c).retries = (b.chan c).retries
  fwd : (v.chan c).fwd = (b.chan c).fwd
  entry : ∀ e, e ∈ (b.chan c).retries ∨ .request e ∈ (b.chan c).fwd → v.entry e = b.entry e

namespace SameQueues

variable {c : Chn} {b v : State}

theorem queuedOn (h : SameQueues c b v) (q : QueuedOn b c) : QueuedOn v c where
  retry e he := by
    rw [h.retries] at he
    rw [h.entry e (.inl he)]
    exact q.retry e he
  waiting e he := by
    rw [h.fwd] at he
    rw [h.entry e (.inr he)]
    exact q.waiting e he
  retriesOnce := h.retries ▸ q.retriesOnce
  waitingOnce := h.fwd ▸ q.waitingOnce

theorem refused (h : SameQueues c b v) {r : Option ChannelRecord} {e : EntryIx} : Refused v r c e ↔ Refused b r c e := by
  unfold Refused
  rw [h.retries, h.fwd]
  exact and_congr_right fun queued => by rw [requestAllowed_congr (h.entry e queued)]

theorem retriesLeft (h : SameQueues c b v) (r : Option ChannelRecord) :
    (v.chan c).retries.filter (requestAllowed v r) = (b.chan c).retries.filter (requestAllowed b r) := by
  rw [h.retries]
  exact List.filter_congr fun e he => requestAllowed_congr (h.entry e (.inl he)) r

theorem fwdLeft (h : SameQueues c b v) (r : Option ChannelRecord) :
    (v.chan c).fwd.filter (passes v r) = (b.chan c).fwd.filter (passes b r) := by
  rw [h.fwd]
  refine List.filter_congr fun x hx => ?_
  cases x with
  | request e => exact requestAllowed_congr (h.entry e (.inr hx)) r
  | post m => rfl

end SameQueues

theorem SwitchedOver.next {before : Area} {b t : State} {l : List Chn} {c : Chn} (q : ∀ c, QueuedOn b c)
    (h : SwitchedOver before b l t) (hc : c ∉ l) : SwitchedOver before b (l ++ [c]) (switchChannel before c t) := by
  have record : recordOf t c = recordOf b c := recordOf_congr h.traffic.policy c
  have shape : switchChannel before c t = recheck c (t.setChan c (switchedRuntime before b c)) := by
    unfold switchChannel switchedRuntime
    rw [record, h.traffic.time, h.waiting c hc]
  obtain ⟨fwd, retries, ret, -, -⟩ :=
    switchRuntime_queues (switchCase (before.recs.get c) (recordOf b c)) b.time (b.chan c)
  have ownOnly : ∀ e, (b.entry e).chan = c → t.entry e = b.entry e := fun e he =>
    h.kept e fun d hd gone => hc (by rw [← he, gone.chan (q d)]; exact hd)
  generalize hv : t.setChan c (switchedRuntime before b c) = v at shape
  have chan : v.chan c = switchedRuntime before b c := by rw [← hv, State.setChan_chan_self]
  have entry : ∀ e, v.entry e = t.entry e := fun e => by rw [← hv, State.setChan_entry]
  have same : SameQueues c b v := by
    refine ⟨by rw [chan]; exact retries, by rw [chan]; exact fwd, fun e he => ?_⟩
    rw [entry]
    rcases he with he | he
    · exact ownOnly e ((q c).retry e he).2
    · exact ownOnly e ((q c).waiting e he).2
  have traffic : Traffic b v := h.traffic.trans (hv ▸ Traffic.setChan _ _ _)
  have links : v.links = b.links := by rw [← hv]; exact h.links
  have parts : PartsGrow b v := by rw [← hv]; exact h.parts
  have now := recheck_rechecks (same.queuedOn (q c))
  rw [recordOf_congr traffic.policy, ← shape] at now
  refine ⟨traffic.trans now.traffic, by rw [now.notices, ← hv]; exact h.notices, now.links.trans links, fun d hd => ?_,
    fun d hd => ?_, fun e none => ?_, fun d hd e gone => ?_, fun d hd m hm no => ?_, parts.trans now.parts⟩
  · rw [List.mem_append, List.mem_singleton, not_or] at hd
    rw [now.other d hd.2, ← hv, State.setChan_chan, if_neg hd.2, h.waiting d hd.1]
  · rcases List.mem_append.mp hd with old | new
    · have other : d ≠ c := fun eq => hc (eq ▸ old)
      rw [now.other d other, ← hv, State.setChan_chan, if_neg other]
      exact h.own d old
    · obtain rfl := List.mem_singleton.mp new
      obtain ⟨more, own⟩ := now.own
      refine ⟨more, ?_⟩
      rw [own, same.retriesLeft, same.fwdLeft, chan]
      unfold switchedRuntime
      rw [ret]
  · rw [now.kept e fun gone => none c (by simp) (same.refused.mp gone), entry]
    exact h.kept e fun d hd => none d (List.mem_append_left _ hd)
  · rcases List.mem_append.mp hd with old | new
    · have other : ¬ Refused v (recordOf b c) c e := fun twice => by
        have eq : d = c := by rw [← gone.chan (q d), (same.refused.mp twice).chan (q c)]
        exact hc (eq ▸ old)
      exact (h.ended d old e gone).after (by rw [now.kept e other, entry])
        fun p => by obtain ⟨more, grown⟩ := now.parts p; exact ⟨more, by rw [grown, ← hv]; rfl⟩
    · obtain rfl := List.mem_singleton.mp new
      exact (now.ended e (same.refused.mpr gone)).before (same.entry e gone.1) links
  · rcases List.mem_append.mp hd with old | new
    · refine now.parts.mem ?_
      rw [← hv]
      exact h.verdicts d old m hm no
    · obtain rfl := List.mem_singleton.mp new
      exact now.verdicts m (by rw [same.fwd]; exact hm) no

theorem switchChannels_over {before : Area} {b : State} (q : ∀ c, QueuedOn b c) (l : List Chn) (once : l.Nodup) :
    SwitchedOver before b l (l.foldl (fun s c => switchChannel before c s) b) := by
  induction l using List.reverseRecOn with
  | nil => exact .nil before b
  | append_singleton l c ih =>
    obtain ⟨first, -, apart⟩ := List.nodup_append.mp once
    rw [List.foldl_append]
    exact (ih first).next q fun hc => apart c hc c List.mem_cons_self rfl

/-! ## The area switch -/

/-- The state with the new selector (R95). -/
def selected (i : AreaId) (s : State) : State := s.setPolicy { s.policy with active := i, pendingSwitch := none }

theorem areaOfId_selected (i j : AreaId) (s : State) : areaOfId (selected i s) j = areaOfId s j := by cases j <;> rfl

theorem recordOf_selected (i : AreaId) (c : Chn) (s : State) : recordOf (selected i s) c = (areaOfId s i).recs.get c := by
  rw [← areaOfId_selected i i s]
  rfl

theorem selected_entry (i : AreaId) (e : EntryIx) (s : State) : (selected i s).entry e = s.entry e := rfl

theorem selected_notices (i : AreaId) (s : State) : (selected i s).notices = s.notices := rfl

theorem resetPointers_frame (s : State) :
    (resetPointers s).chans = s.chans ∧ (resetPointers s).exch = s.exch ∧ (resetPointers s).links = s.links ∧
      (resetPointers s).notices = s.notices := ⟨rfl, rfl, rfl, rfl⟩

theorem resetPointers_arb (p : Port) (s : State) :
    (resetPointers s).arb p = { s.arb p with ptr3 := .none, ptr4 := .none } := by
  simp only [resetPointers, allPorts, List.foldl_cons, List.foldl_nil, State.setArb_arb]
  cases p <;> rfl

/-- The switch of all numbers, before the pointers become absent and AREA_SWITCHED is latched. -/
def switchedAll (i : AreaId) (s : State) : State :=
  allChns.foldl (fun t c => switchChannel (activeArea s) c t) (selected i s)

theorem takeSwitch_latchedOnly (i : AreaId) (s : State) :
    LatchedOnly (resetPointers (switchedAll i s)) (takeSwitch i s) (fun _ => 0x0004#16) :=
  latchAll_only .areaSwitched _

theorem takeSwitch_queues (i : AreaId) (s : State) :
    (takeSwitch i s).chans = (switchedAll i s).chans ∧ (takeSwitch i s).exch = (switchedAll i s).exch ∧
      (takeSwitch i s).links = (switchedAll i s).links ∧ PartsGrow (switchedAll i s) (takeSwitch i s) := by
  have only := takeSwitch_latchedOnly i s
  obtain ⟨-, -, links, -, -, -, chans, exch, -⟩ := only.rest
  obtain ⟨chansKept, exchKept, linksKept, -⟩ := resetPointers_frame (switchedAll i s)
  refine ⟨chans.trans chansKept, exch.trans exchKept, links.trans linksKept, fun p =>
    ⟨noticeMade ((resetPointers (switchedAll i s)).notice p) 0x0004#16, ?_⟩⟩
  rw [only.arb, resetPointers_arb]

theorem allChns_nodup : allChns.Nodup := by
  unfold allChns
  exact List.nodup_finRange 48

theorem queuedOn_selected (i : AreaId) {s : State} (h : ExchangesOk s) (c : Chn) : QueuedOn (selected i s) c where
  retry := (queuedOn_of_exchangesOk h c).retry
  waiting := (queuedOn_of_exchangesOk h c).waiting
  retriesOnce := h.retriesOnce c
  waitingOnce := h.waitingOnce c

theorem switchedAll_over (i : AreaId) {s : State} (h : ExchangesOk s) :
    SwitchedOver (activeArea s) (selected i s) allChns (switchedAll i s) :=
  switchChannels_over (queuedOn_selected i h) allChns allChns_nodup

/-- A number whose owner and peer stay keeps its last forward time, own HOLD and BAR, and its credit and timer follow the two meters. -/
theorem switchRuntime_same {b a : ChannelRecord} (owner : b.owner = a.owner) (peer : b.peer = a.peer) (now : Time) (ch : Chan) :
    let r := switchRuntime (switchCase (some b) (some a)) now ch
    r.lastForward = ch.lastForward ∧ r.ownHold = ch.ownHold ∧ r.bar = ch.bar ∧
      (a.creditBase = 0 → r.credit = 0 ∧ r.refillAt = none) ∧
      (a.creditBase ≠ 0 → b.creditBase = 0 → r.credit = a.creditBase ∧ r.refillAt = timerFrom a now) ∧
      (a.creditBase ≠ 0 → b.creditBase ≠ 0 → r.credit = min ch.credit a.creditBase ∧
        r.refillAt = if a.refillPeriod = b.refillPeriod then ch.refillAt else timerFrom a now) := by
  intro r
  have case : switchCase (some b) (some a) = .kept b a := if_pos ⟨owner, peer⟩
  have shape : r = { ch with
      credit := (switchCredit (.kept b a) now ch).1
      refillAt := (switchCredit (.kept b a) now ch).2
      lastRefill := none } := by
    simp only [r, case]
    rfl
  rw [shape]
  refine ⟨rfl, rfl, rfl, fun off => ?_, fun on was => ?_, fun on was => ?_⟩ <;> dsimp only [switchCredit]
  · rw [if_pos off]
    exact ⟨rfl, rfl⟩
  · rw [if_neg on, if_pos was]
    exact ⟨rfl, rfl⟩
  · rw [if_neg on, if_neg was]
    exact ⟨rfl, rfl⟩

/-- A number begins afresh under the record `a` at `now`. -/
def Fresh (a : ChannelRecord) (now : Time) (r : Chan) : Prop :=
  r.credit = a.creditBase ∧ r.refillAt = timerFrom a now ∧ r.lastForward = none ∧ r.ownHold = false ∧ r.bar = false

theorem switchRuntime_changed {b a : ChannelRecord} (other : b.owner ≠ a.owner ∨ b.peer ≠ a.peer) (now : Time) (ch : Chan) :
    Fresh a now (switchRuntime (switchCase (some b) (some a)) now ch) := by
  have case : switchCase (some b) (some a) = .changed a := if_neg fun same => other.elim (· same.1) (· same.2)
  rw [case]
  exact ⟨rfl, rfl, rfl, rfl, rfl⟩

theorem switchRuntime_new (a : ChannelRecord) (now : Time) (ch : Chan) :
    Fresh a now (switchRuntime (switchCase none (some a)) now ch) := ⟨rfl, rfl, rfl, rfl, rfl⟩

/-- A request of an exchange that is not QUEUED is not refused: it stands in no queue. -/
theorem not_refused_of_busy {i : AreaId} {s : State} (h : ExchangesOk s) {e : EntryIx} (busy : (s.entry e).st ≠ .queued)
    (r : Option ChannelRecord) (c : Chn) : ¬ Refused (selected i s) r c e := by
  rintro ⟨retry | waiting, -⟩
  · exact busy (h.retry c e retry).1
  · exact busy (h.waiting c e waiting).1

/-- What a switch does to the queued work of one number (R96). -/
theorem takeSwitch_chan (i : AreaId) {s : State} (h : ExchangesOk s) (c : Chn) :
    ∃ more, (takeSwitch i s).chan c =
      { switchRuntime (switchCase ((activeArea s).recs.get c) ((areaOfId s i).recs.get c)) s.time (s.chan c) with
        retries := (s.chan c).retries.filter (requestAllowed s ((areaOfId s i).recs.get c))
        fwd := (s.chan c).fwd.filter (passes s ((areaOfId s i).recs.get c))
        ret := (s.chan c).ret ++ more } := by
  obtain ⟨chans, -⟩ := takeSwitch_queues i s
  obtain ⟨more, own⟩ := (switchedAll_over i h).own c (List.mem_finRange c)
  rw [recordOf_selected] at own
  refine ⟨more, ?_⟩
  simp only [State.chan, chans]
  exact own

theorem takeSwitch_kept (i : AreaId) {s : State} (h : ExchangesOk s) {e : EntryIx} (busy : (s.entry e).st ≠ .queued) :
    (takeSwitch i s).entry e = s.entry e := by
  obtain ⟨-, exch, -⟩ := takeSwitch_queues i s
  have kept := (switchedAll_over i h).kept e fun c _ => not_refused_of_busy h busy _ c
  simp only [State.entry, exch]
  exact kept

theorem takeSwitch_ended (i : AreaId) {s : State} (h : ExchangesOk s) {c : Chn} {e : EntryIx}
    (queued : e ∈ (s.chan c).retries ∨ .request e ∈ (s.chan c).fwd)
    (no : requestAllowed s ((areaOfId s i).recs.get c) e = false) : EndedRevoked s (takeSwitch i s) e := by
  obtain ⟨-, exch, -, grow⟩ := takeSwitch_queues i s
  have refused : Refused (selected i s) (recordOf (selected i s) c) c e := ⟨queued, by rw [recordOf_selected]; exact no⟩
  have ended := (switchedAll_over i h).ended c (List.mem_finRange c) e refused
  have here : EndedRevoked s (switchedAll i s) e := ended.before (selected_entry i e s) rfl
  exact here.after (by simp only [State.entry, exch]) grow

theorem takeSwitch_verdict (i : AreaId) {s : State} (h : ExchangesOk s) {c : Chn} {m : PostItem}
    (queued : .post m ∈ (s.chan c).fwd) (no : postAllowed ((areaOfId s i).recs.get c) m = false) :
    { what := .verdict .revoked 0x03#8 [chnByte c, m.label], block := .charged } ∈ ((takeSwitch i s).arb m.sender).iq := by
  obtain ⟨-, -, -, grow⟩ := takeSwitch_queues i s
  exact grow.mem ((switchedAll_over i h).verdicts c (List.mem_finRange c) m queued (by rw [recordOf_selected]; exact no))

/-- A switch latches AREA_SWITCHED for every port, and no other condition (R98). -/
theorem takeSwitch_latched (i : AreaId) {s : State} (h : ExchangesOk s) : Latched s (takeSwitch i s) (fun _ => 0x0004#16) := by
  have latched := (takeSwitch_latchedOnly i s).latched
  have same : ∀ p, (resetPointers (switchedAll i s)).notice p = s.notice p := fun p => by
    obtain ⟨-, -, -, kept⟩ := resetPointers_frame (switchedAll i s)
    simp only [State.notice, kept, (switchedAll_over i h).notices, selected_notices]
  exact ⟨fun p => by rw [latched.notice, same], fun p f hf => latched.made p f (by rw [same]; exact hf)⟩

/-- Settles O48: every number is switched on its own work (`SwitchedOver`), and what follows the last number touches only the pointers
and the notices. -/
theorem switchTaken : Obligations.SwitchTaken := by
  unfold Obligations.SwitchTaken
  intro s i ok u before after' timer fresh
  obtain ⟨session, draws, run, touch, -⟩ := takeSwitch_rest i s
  obtain ⟨-, -, links, -⟩ := takeSwitch_queues i s
  refine ⟨takeSwitch_policy i s, (takeSwitch_steady i s).time, session, links.trans (switchedAll_over i ok).links, draws, run, touch,
    fun p => ?_, takeSwitch_latched i ok, fun e busy => takeSwitch_kept i ok fun queued => ?_, fun c => ?_⟩
  · have arb := (takeSwitch_latchedOnly i s).arb p
    rw [resetPointers_arb] at arb
    exact ⟨congrArg Arbiter.ptr3 arb, congrArg Arbiter.ptr4 arb⟩
  · rw [queued] at busy
    rcases busy with busy | busy <;> cases busy
  · obtain ⟨more, own⟩ := takeSwitch_chan i ok c
    obtain ⟨-, -, -, outstanding, refilled⟩ :=
      switchRuntime_queues (switchCase (before.recs.get c) (after'.recs.get c)) s.time (s.chan c)
    have credit : (u.chan c).credit = _ := congrArg Chan.credit own
    have refillAt : (u.chan c).refillAt = _ := congrArg Chan.refillAt own
    have lastForward : (u.chan c).lastForward = _ := congrArg Chan.lastForward own
    have ownHold : (u.chan c).ownHold = _ := congrArg Chan.ownHold own
    have bar : (u.chan c).bar = _ := congrArg Chan.bar own
    refine ⟨(congrArg Chan.outstanding own).trans outstanding, (congrArg Chan.lastRefill own).trans refilled,
      ⟨more, congrArg Chan.ret own⟩, congrArg Chan.retries own, (congrArg Chan.fwd own).trans ?_,
      fun e queued no => ?_, fun m queued no => takeSwitch_verdict i ok queued no, ?_⟩
    · exact List.filter_congr fun x _ => by cases x <;> rfl
    · obtain ⟨st, status, req, withdrawn⟩ := takeSwitch_ended i ok queued no
      exact ⟨st, status, req, withdrawn⟩
    · simp only [fresh, credit, refillAt, lastForward, ownHold, bar]
      refine ⟨fun b a was is => ⟨fun owner peer => ?_, fun other => ?_⟩, fun a was is => ?_, fun b was is => ?_,
        fun was is => ?_⟩ <;> rw [show (activeArea s).recs.get c = _ from was, show (areaOfId s i).recs.get c = _ from is]
      · exact switchRuntime_same owner peer s.time (s.chan c)
      · exact switchRuntime_changed other s.time (s.chan c)
      · exact switchRuntime_new a s.time (s.chan c)
      · exact ⟨rfl, rfl, rfl, rfl, rfl⟩
      · exact ⟨rfl, rfl, rfl, rfl, rfl⟩

end Sys2Proof.Proofs
end

section
/-! The entry that a REPLY or an EXTEND names (R50), and EXTEND (R55). -/

namespace Sys2Proof.Proofs

open Sys2Proof Sys2Proof.Machine Sys2Proof.Safety

/-! ## The entry a frame names -/

theorem entryOf_eq_some {n : Nat} {e : EntryIx} : entryOf n = some e ↔ n = e.val := by
  refine ⟨fun h => ?_, fun h => h ▸ entryOf_index e⟩
  unfold entryOf at h
  split at h <;> cases h
  rfl

/-- The 48 numbers fit their byte. -/
theorem chnByte_eq {c : Chn} {b : Byte} : chnByte c = b ↔ b.toNat = c.val + 1 := by
  have fits : (chnByte c).toNat = c.val + 1 := Nat.mod_eq_of_lt (by omega)
  rw [← fits, ← BitVec.toNat_inj]
  exact eq_comm

theorem live_iff {s : State} {e : EntryIx} : live s e = true ↔ (s.entry e).st ≠ .free := bne_iff_ne

theorem waitingRetry_iff {s : State} {e : EntryIx} :
    waitingRetry s e = true ↔ (s.entry e).st = .queued ∧ (s.entry e).fwdOnce = true := by
  rw [waitingRetry, Bool.and_eq_true, beq_iff_eq]

/-- The entry found is the one whose fields match (R50). -/
theorem namedEntry_eq_some {s : State} {y : Port} {chan xid : Byte} {e : EntryIx} :
    namedEntry s y chan xid = some e ↔ Names s y chan xid e := by
  unfold namedEntry
  constructor
  · intro h
    split at h
    · rename_i d index
      split at h
      · rename_i fields
        obtain ⟨alive, generation, channel, responder⟩ := fields
        cases h
        exact ⟨entryOf_eq_some.mp index, live_iff.mp alive, generation.symm, chnByte_eq.mp channel, responder⟩
      · cases h
    · cases h
  · intro h
    simp only [entryOf_eq_some.mpr h.index]
    rw [if_pos ⟨live_iff.mpr h.live, h.generation.symm, chnByte_eq.mpr h.channel, h.responder⟩]

theorem namedEntry_eq_none {s : State} {y : Port} {chan xid : Byte} (h : ∀ e, ¬ Names s y chan xid e) :
    namedEntry s y chan xid = none :=
  Option.eq_none_iff_forall_ne_some.mpr fun e he => h e (namedEntry_eq_some.mp he)

/-! ## An EXTEND -/

theorem exec_extend {y : Port} {b : Byte} {s : State} {n : Nat} {body : List Byte} (h : Arrives s y b .extend n body) :
    exec (.extend y b) s = .next (byteEnd y (takeExtend y n body (handed y s))) :=
  congrArg _ (typedFrame_arrives (takeExtend y) h)

section extend
variable {y : Port} {n : Nat} {chan xid : Byte} {s : State} {e : EntryIx} (names : Names s y chan xid e)
include names

/-- The EXTEND of an entry is decided by the entry's state (R55). -/
theorem takeExtend_of_names :
    takeExtend y n [chan, xid] s =
      if (s.entry e).st = .forwarded then extendEntry e (release y n s)
      else if waitingRetry s e then release y n s
      else verdict y n .stale .extend [chan, xid] s := by
  have read : readExtend [chan, xid] = some (chan, xid) := rfl
  simp only [takeExtend, read, namedEntry_eq_some.mpr names]
  rfl

theorem takeExtend_stale (h : ¬ Awaits s e) :
    takeExtend y n [chan, xid] s = verdict y n .stale .extend [chan, xid] s := by
  rw [takeExtend_of_names names, if_neg fun forwarded => h (.inl forwarded), if_neg fun retry => h (.inr (waitingRetry_iff.mp retry))]

theorem takeExtend_retry (queued : (s.entry e).st = .queued) (once : (s.entry e).fwdOnce = true) :
    takeExtend y n [chan, xid] s = release y n s := by
  rw [takeExtend_of_names names, if_neg (by rw [queued]; decide), if_pos (waitingRetry_iff.mpr ⟨queued, once⟩)]

theorem takeExtend_forwarded (forwarded : (s.entry e).st = .forwarded) :
    takeExtend y n [chan, xid] s = extendEntry e (release y n s) := by
  rw [takeExtend_of_names names, if_pos forwarded]

end extend

/-- An entry at MaxExtends is extended no more (R55). -/
theorem extendEntry_spent {e : EntryIx} {s : State} (h : (s.entry e).snap.maxExtends ≤ (s.entry e).extCount) :
    extendEntry e s = s := if_neg (Nat.not_lt.mpr h)

/-- An entry below MaxExtends takes the later of its deadline and now + ExtendStep (R55). -/
theorem extendEntry_below {e : EntryIx} {s : State} (h : (s.entry e).extCount < (s.entry e).snap.maxExtends) {d : Time}
    (deadline : (s.entry e).deadline = some d) :
    extendEntry e s = s.setEntry e
      { s.entry e with
        extCount := (s.entry e).extCount + 1
        deadline := some (if later (after s.time (s.entry e).snap.extendStep) d
          then after s.time (s.entry e).snap.extendStep else d) } := by
  rw [extendEntry, if_pos h, deadline, apply_ite some]

/-- What an EXTEND reads is as it was before its last byte, and before its blocks were released. -/
theorem released_handed_entry (y : Port) (n : Nat) (s : State) (e : EntryIx) :
    (release y n (handed y s)).entry e = s.entry e := handed_entry y s e

theorem released_handed_time (y : Port) (n : Nat) (s : State) : (release y n (handed y s)).time = s.time := handed_time y s

theorem handed_names {s : State} {y : Port} {chan xid : Byte} {e : EntryIx} (h : Names s y chan xid e) :
    Names (handed y s) y chan xid e :=
  namedEntry_eq_some.mp ((handed_namedEntry y s y chan xid).trans (namedEntry_eq_some.mpr h))

/-- Settles O37: the verdicts, the EXTENDs that only release their blocks, and the one that moves the deadline. -/
theorem extendHandled : Obligations.ExtendHandled := by
  unfold Obligations.ExtendHandled
  intro y b s n body arrives v
  refine ⟨fun bad => ?_, ?_⟩
  · rw [exec_extend arrives]
    simp only [takeExtend, readExtend, if_neg bad]
    rfl
  rintro chan xid rfl
  rw [exec_extend arrives]
  refine ⟨fun none => ?_, fun e names => ?_⟩
  · have read : readExtend [chan, xid] = some (chan, xid) := rfl
    simp only [takeExtend, read, handed_namedEntry, namedEntry_eq_none none]
    rfl
  have found := handed_names names
  have entry : (handed y s).entry e = s.entry e := handed_entry y s e
  have kept : v.entry e = s.entry e := released_handed_entry y n s e
  have time : v.time = s.time := released_handed_time y n s
  refine ⟨fun idle => ?_, fun queued once => ?_, fun forwarded spent => ?_, fun forwarded below d deadline => ?_⟩
  · rw [takeExtend_stale found (by rwa [Awaits, entry])]
    rfl
  · rw [takeExtend_retry found (by rwa [entry]) (by rwa [entry])]
  · rw [takeExtend_forwarded found (by rwa [entry]), extendEntry_spent (by rwa [kept])]
  · rw [takeExtend_forwarded found (by rwa [entry]), extendEntry_below (by rwa [kept]) (by rwa [kept]), kept, time]

end Sys2Proof.Proofs
end

section
/-! The order of candidates (R75, R79, R80): the rank order of a mode, the first number of a class, and the number picked. -/

namespace Sys2Proof.Proofs

open Sys2Proof Sys2Proof.Machine Sys2Proof.Safety

/-! ## The rank order -/

theorem mem_allChns (c : Chn) : c ∈ allChns := List.mem_finRange c

theorem allChns_sorted : allChns.Pairwise (· < ·) := List.pairwise_lt_finRange 48

theorem placeOf_of_unpointed {m : EgressMode} {q : Option Chn} (h : m = .fixed ∨ q = none) (c : Chn) : placeOf m q c = c.val := by
  rcases h with rfl | rfl
  · rfl
  · cases m <;> rfl

theorem placeOf_after {q c : Chn} (h : q.val < c.val) : placeOf .rotating (some q) c = c.val - q.val - 1 := by
  simp only [placeOf]
  omega

theorem placeOf_upTo {q c : Chn} (h : c.val ≤ q.val) : placeOf .rotating (some q) c = c.val + 47 - q.val := by
  simp only [placeOf]
  omega

theorem rankOrder_of_unpointed {m : EgressMode} {q : Option Chn} (h : m = .fixed ∨ q = none) : rankOrder m q = allChns := by
  rcases h with rfl | rfl
  · rfl
  · cases m <;> rfl

theorem unpointed_or_rotating (m : EgressMode) (q : Option Chn) :
    (m = .fixed ∨ q = none) ∨ ∃ r, m = .rotating ∧ q = some r := by
  cases m with
  | fixed => exact .inl (.inl rfl)
  | rotating =>
    cases q with
    | none => exact .inl (.inr rfl)
    | some r => exact .inr ⟨r, rfl, rfl⟩

theorem mem_rankOrder (m : EgressMode) (q : Option Chn) (c : Chn) : c ∈ rankOrder m q := by
  rcases unpointed_or_rotating m q with unpointed | ⟨r, rfl, rfl⟩
  · rw [rankOrder_of_unpointed unpointed]
    exact mem_allChns c
  · simp [rankOrder, mem_allChns, lt_or_ge]

/-- The rank order lists the numbers by their places: under ROTATING those after the pointer come before those up to it. -/
theorem rankOrder_sorted (m : EgressMode) (q : Option Chn) :
    (rankOrder m q).Pairwise fun c d => placeOf m q c ≤ placeOf m q d := by
  rcases unpointed_or_rotating m q with unpointed | ⟨r, rfl, rfl⟩
  · rw [rankOrder_of_unpointed unpointed]
    refine allChns_sorted.imp fun {c d} (lt : c.val < d.val) => ?_
    rw [placeOf_of_unpointed unpointed, placeOf_of_unpointed unpointed]
    omega
  · have sorted : ∀ f : Chn → Bool, (allChns.filter f).Pairwise (· < ·) := fun f => allChns_sorted.filter f
    refine List.pairwise_append.mpr ⟨(sorted _).imp_of_mem fun {c d} hc hd (lt : c.val < d.val) => ?_,
      (sorted _).imp_of_mem fun {c d} hc hd (lt : c.val < d.val) => ?_, fun c hc d hd => ?_⟩
    all_goals simp only [List.mem_filter, mem_allChns, true_and, decide_eq_true_eq, Fin.lt_def, Fin.le_def] at hc hd
    · rw [placeOf_after hc, placeOf_after hd]
      omega
    · rw [placeOf_upTo hc, placeOf_upTo hd]
      omega
    · rw [placeOf_after hc, placeOf_upTo hd]
      omega

/-! ## The first number of a class -/

/-- The first eligible number of class `k`, in the order of the mode with the pointer of the class (R79, R80). -/
def firstOfClass (s : State) (m : EgressMode) (v : Pointers) (eligible : Chn → Bool) (k : EgressClass) : Option Chn :=
  (rankOrder m (v.get k)).find? fun c => eligible c && classOfChn s c == k

section firstOfClass
variable {s : State} {m : EgressMode} {v : Pointers} {eligible : Chn → Bool} {k : EgressClass} {c : Chn}

theorem firstOfClass_eq_none :
    firstOfClass s m v eligible k = none ↔ ∀ c, classOfChn s c = k → eligible c = false := by
  simp only [firstOfClass, List.find?_eq_none, mem_rankOrder, true_imp_iff, Bool.and_eq_true, beq_iff_eq, not_and]
  exact forall_congr' fun c => ⟨fun h hk => Bool.eq_false_iff.mpr fun he => h he hk, fun h he hk => by simp [h hk] at he⟩

theorem firstOfClass_eq_some (h : firstOfClass s m v eligible k = some c) :
    eligible c = true ∧ classOfChn s c = k ∧
      ∀ d, eligible d = true → classOfChn s d = k → placeOf m (v.get k) c ≤ placeOf m (v.get k) d := by
  obtain ⟨found, before, behind, order, skipped⟩ := List.find?_eq_some_iff_append.mp h
  simp only [Bool.and_eq_true, beq_iff_eq] at found
  refine ⟨found.1, found.2, fun d hd hk => ?_⟩
  have sorted := rankOrder_sorted m (v.get k)
  have listed := mem_rankOrder m (v.get k) d
  rw [order] at sorted listed
  rcases List.mem_append.mp listed with early | late
  · have := skipped d early
    simp [hd, hk] at this
  · rcases List.mem_cons.mp late with rfl | later
    · exact Nat.le_refl _
    · exact List.rel_of_pairwise_cons (List.pairwise_append.mp sorted).2.1 later

/-! ## The number picked -/

theorem pick_eq (s : State) (m : EgressMode) (v : Pointers) (eligible : Chn → Bool) :
    pick s m v eligible =
      (firstOfClass s m v eligible .payment).or
        ((firstOfClass s m v eligible .radio).or (firstOfClass s m v eligible .app)) := rfl

theorem pick_eq_none : pick s m v eligible = none ↔ ∀ c, eligible c = false := by
  simp only [pick_eq, Option.or_eq_none_iff, firstOfClass_eq_none]
  refine ⟨fun ⟨payment, radio, app⟩ c => ?_, fun h => ⟨fun c _ => h c, fun c _ => h c, fun c _ => h c⟩⟩
  cases hk : classOfChn s c with
  | payment => exact payment c hk
  | radio => exact radio c hk
  | app => exact app c hk

/-- The number picked is the first of its class, and the classes above it have none. -/
theorem firstOfClass_of_pick (h : pick s m v eligible = some c) :
    ∃ k, firstOfClass s m v eligible k = some c ∧
      ∀ j, classRank j < classRank k → firstOfClass s m v eligible j = none := by
  simp only [pick_eq, Option.or_eq_some_iff] at h
  rcases h with payment | ⟨noPayment, radio | ⟨noRadio, app⟩⟩
  · exact ⟨.payment, payment, fun j above => by cases j <;> simp [classRank] at above⟩
  · refine ⟨.radio, radio, fun j above => ?_⟩
    cases j <;> simp [classRank] at above
    exact noPayment
  · refine ⟨.app, app, fun j above => ?_⟩
    cases j <;> simp [classRank] at above
    · exact noPayment
    · exact noRadio

theorem pick_firstOf (h : pick s m v eligible = some c) : FirstOf s m v (fun d => eligible d = true) c := by
  obtain ⟨k, found, above⟩ := firstOfClass_of_pick h
  obtain ⟨hc, rfl, first⟩ := firstOfClass_eq_some found
  refine ⟨hc, fun d hd => ⟨Nat.le_of_not_lt fun higher => ?_, fun same => first d hd same.symm⟩⟩
  have none := firstOfClass_eq_none.mp (above _ higher) d rfl
  exact absurd hd (by simp [none])

end firstOfClass

/-- Settles O20: a pick goes class by class and, within a class, down the rank order of the mode. -/
theorem pickFollowsClassAndMode : Obligations.PickFollowsClassAndMode := by
  unfold Obligations.PickFollowsClassAndMode
  refine ⟨fun s c => ⟨fun r hr => ?_, fun absent => ?_⟩, fun s m v eligible => ⟨pick_eq_none, fun c hc => ?_⟩⟩
  · simp only [classOfChn, hr]
  · simp only [classOfChn, absent]
  · have picked := pick_firstOf hc
    exact ⟨picked.eligible, picked.first⟩

end Sys2Proof.Proofs
end

section
/-! What the grants and the take that end an event leave as it was (R71, R82, R134): the fields of links, notices and channels that no
grant writes, the frames in transmission, and the exchanges that are not QUEUED. -/

namespace Sys2Proof.Proofs

open Sys2Proof Sys2Proof.Machine Sys2Proof.Safety

/-! ## A relation that every grant keeps -/

theorem grants_of_grant (R : State → State → Prop) (trans : ∀ {s t u}, R s t → R t u → R s u)
    (grant : ∀ p s, R s (grant p s)) (s : State) : R s (grants s) := by
  have round : ∀ t, R t (grantRound t) := fun t => trans (trans (grant .ad t) (grant .pd _)) (grant .rd _)
  exact trans (trans (round s) (round _)) (round _)

/-! ## What no grant writes -/

/-- A link unit but for the stall timer and the ready line. -/
def linkSpared (l : Link) : Link := { l with stall := none, ready := false }

/-- A notice unit but for the state of its NOTICE. -/
def noticeSpared (n : Notice) : Notice := { n with st := .none }

/-- The runtime of a number but for own HOLD, its queues and its last forward time. -/
def chanSpared (c : Chan) : Chan := { c with ownHold := false, fwd := [], retries := [], ret := [], lastForward := none }

/-- The radio signals but for the mark of the last CRC byte. -/
def radioSpared (r : Radio) : Radio := { r with lastStarted := false }

theorem linkSpared_eq {l m : Link} : linkSpared l = linkSpared m ↔
    l.state = m.state ∧ l.rx = m.rx ∧ l.errors = m.errors ∧ l.reserve = m.reserve ∧ l.dataOut = m.dataOut := by
  simp [linkSpared]

theorem noticeSpared_eq {n m : Notice} : noticeSpared n = noticeSpared m ↔ n.mask = m.mask ∧ n.set = m.set ∧ n.again = m.again := by
  simp [noticeSpared]

theorem chanSpared_eq {c d : Chan} : chanSpared c = chanSpared d ↔
    c.credit = d.credit ∧ c.bar = d.bar ∧ c.outstanding = d.outstanding ∧ c.refillAt = d.refillAt ∧
      c.lastRefill = d.lastRefill := by
  simp [chanSpared]

theorem radioSpared_eq {r q : Radio} : radioSpared r = radioSpared q ↔ r.cts = q.cts ∧ r.rts = q.rts := by
  simp [radioSpared]

/-- From `s` to `t` links, notice units, channel numbers and the radio signals have changed at most where a grant writes them. -/
structure Spared (s t : State) : Prop where
  link : ∀ p, linkSpared (t.link p) = linkSpared (s.link p)
  notice : ∀ p, noticeSpared (t.notice p) = noticeSpared (s.notice p)
  chan : ∀ c, chanSpared (t.chan c) = chanSpared (s.chan c)
  radio : radioSpared t.radio = radioSpared s.radio

theorem Spared.refl (s : State) : Spared s s := ⟨fun _ => rfl, fun _ => rfl, fun _ => rfl, rfl⟩

theorem Spared.trans {s t u : State} (h : Spared s t) (k : Spared t u) : Spared s u :=
  ⟨fun p => (k.link p).trans (h.link p), fun p => (k.notice p).trans (h.notice p), fun c => (k.chan c).trans (h.chan c),
    k.radio.trans h.radio⟩

/-- A change as a grant on the link of `p` makes it: the links and arbiters of the other ports stand. -/
structure GrantedAt (p : Port) (s t : State) : Prop extends Spared s t where
  elsewhere : ∀ q, q ≠ p → t.arb q = s.arb q ∧ t.link q = s.link q

namespace GrantedAt

theorem refl (p : Port) (s : State) : GrantedAt p s s := ⟨.refl s, fun _ _ => ⟨rfl, rfl⟩⟩

theorem trans {p : Port} {s t u : State} (h : GrantedAt p s t) (k : GrantedAt p t u) : GrantedAt p s u :=
  ⟨h.toSpared.trans k.toSpared, fun q hq =>
    ⟨(k.elsewhere q hq).1.trans (h.elsewhere q hq).1, (k.elsewhere q hq).2.trans (h.elsewhere q hq).2⟩⟩

theorem setArb (p : Port) (s : State) (v : Arbiter) : GrantedAt p s (s.setArb p v) :=
  ⟨⟨fun _ => rfl, fun _ => rfl, fun _ => rfl, rfl⟩, fun q hq => ⟨by rw [State.setArb_arb, if_neg hq], rfl⟩⟩

theorem setLine (p : Port) (s : State) (a : Option Time) (b : Bool) :
    GrantedAt p s (s.setLink p { s.link p with stall := a, ready := b }) where
  link q := by
    rw [State.setLink_link]
    split
    · next same => rw [same]; rfl
    · rfl
  notice _ := rfl
  chan _ := rfl
  radio := rfl
  elsewhere q hq := ⟨rfl, by rw [State.setLink_link, if_neg hq]⟩

theorem setNoticeState (p : Port) (s : State) (a : NoticeState) : GrantedAt p s (s.setNotice p { s.notice p with st := a }) where
  link _ := rfl
  notice q := by
    rw [State.setNotice_notice]
    split
    · next same => rw [same]; rfl
    · rfl
  chan _ := rfl
  radio := rfl
  elsewhere _ _ := ⟨rfl, rfl⟩

theorem setQueues (p : Port) (s : State) (c : Chn) (own : Bool) (f : List FwdItem) (r : List EntryIx) (q : List RetItem)
    (l : Option Time) :
    GrantedAt p s (s.setChan c { s.chan c with ownHold := own, fwd := f, retries := r, ret := q, lastForward := l }) where
  link _ := rfl
  notice _ := rfl
  chan d := by
    rw [State.setChan_chan]
    split
    · next same => rw [same]; rfl
    · rfl
  radio := rfl
  elsewhere _ _ := ⟨rfl, rfl⟩

theorem setEntry (p : Port) (s : State) (e : EntryIx) (v : Entry) : GrantedAt p s (s.setEntry e v) :=
  ⟨⟨fun _ => rfl, fun _ => rfl, fun _ => rfl, rfl⟩, fun _ _ => ⟨rfl, rfl⟩⟩

theorem setLastStarted (p : Port) (s : State) (b : Bool) :
    GrantedAt p s (s.setRadio { s.radio with lastStarted := b }) :=
  ⟨⟨fun _ => rfl, fun _ => rfl, fun _ => rfl, rfl⟩, fun _ _ => ⟨rfl, rfl⟩⟩

end GrantedAt

theorem startTx_at (p : Port) (ty : Byte) (body : List Byte) (src : TxSource) (s : State) :
    GrantedAt p s (startTx p ty body src s) := by
  have started := (GrantedAt.setArb p s { s.arb p with tx := some { ty := ty, body := body, sent := 0, source := src } }).trans
    (GrantedAt.setLine p _ (some (after s.time (10 * (settingsOf s p).stallLimit))) (p != .rd))
  unfold startTx
  dsimp only
  split
  · exact started.trans (GrantedAt.setLastStarted p _ false)
  · exact started

theorem grantPart_at (p : Port) (f : IFrame) (rest : List IFrame) (s : State) : GrantedAt p s (grantPart p f rest s) := by
  have joined := GrantedAt.setArb p s { s.arb p with iq := rest }
  refine GrantedAt.trans ?_ (startTx_at p _ _ _ _)
  split
  · exact joined.trans (GrantedAt.setNoticeState p _ .sending)
  · exact joined

theorem grantReply_at (p : Port) (c : Chn) (s : State) : GrantedAt p s (grantReply p c s) := by
  unfold grantReply
  split
  · next i rest _ =>
    refine GrantedAt.trans ?_ (startTx_at p _ _ _ _)
    exact (GrantedAt.setQueues p s c _ _ _ rest _).trans (GrantedAt.setArb p _ _)
  · exact GrantedAt.refl p s

theorem forwardRequest_at (p : Port) (c : Chn) (e : EntryIx) (s : State) : GrantedAt p s (forwardRequest p c e s) :=
  (GrantedAt.setEntry p s e _).trans (startTx_at _ _ _ _ _)

theorem forwardPost_at (p : Port) (c : Chn) (m : PostItem) (s : State) : GrantedAt p s (forwardPost p c m s) := by
  refine GrantedAt.trans ?_ (startTx_at p _ _ _ _)
  split
  · split
    · exact GrantedAt.setQueues p s c true _ _ _ _
    · exact GrantedAt.refl p s
  · exact GrantedAt.refl p s

theorem grantForward_at (p : Port) (c : Chn) (s : State) : GrantedAt p s (grantForward p c s) := by
  have pointed := GrantedAt.setArb p s { s.arb p with ptr4 := (s.arb p).ptr4.set (classOfChn s c) c }
  unfold grantForward
  dsimp only
  split
  · next e rest _ =>
    exact pointed.trans ((GrantedAt.setQueues p _ c _ _ rest _ (some s.time)).trans (forwardRequest_at p c e _))
  · split
    · next e rest _ =>
      exact pointed.trans ((GrantedAt.setQueues p _ c _ rest _ _ (some s.time)).trans (forwardRequest_at p c e _))
    · next m rest _ =>
      exact pointed.trans ((GrantedAt.setQueues p _ c _ rest _ _ (some s.time)).trans (forwardPost_at p c m _))
    · exact pointed

theorem grant_at (p : Port) (s : State) : GrantedAt p s (grant p s) := by
  unfold grant
  split
  · split
    · exact grantPart_at _ _ _ _
    · split
      · exact startTx_at _ _ _ _ _
      · split
        · exact grantReply_at _ _ _
        · split
          · exact grantForward_at _ _ _
          · exact GrantedAt.refl p s
  · exact GrantedAt.refl p s

theorem grants_spared (s : State) : Spared s (grants s) :=
  grants_of_grant Spared Spared.trans (fun p s => (grant_at p s).toSpared) s

/-! ## The frames in transmission -/

/-- From `s` to `t` every port with a frame in transmission keeps its arbiter and its link (R82). -/
def TransmissionsStand (s t : State) : Prop :=
  ∀ p, (s.arb p).tx.isSome = true → t.arb p = s.arb p ∧ t.link p = s.link p

theorem TransmissionsStand.trans {s t u : State} (h : TransmissionsStand s t) (k : TransmissionsStand t u) :
    TransmissionsStand s u := fun p busy => by
  obtain ⟨arb, link⟩ := h p busy
  obtain ⟨arb', link'⟩ := k p (by rwa [arb])
  exact ⟨arb'.trans arb, link'.trans link⟩

theorem grant_transmissionsStand (p : Port) (s : State) : TransmissionsStand s (grant p s) := fun q busy => by
  by_cases same : q = p
  · subst same
    have full : mayGrant s q = false := by
      rw [mayGrant, Option.isNone_eq_false_iff.mpr busy, Bool.and_false]
    rw [grant_of_not_mayGrant full]
    exact ⟨rfl, rfl⟩
  · exact (grant_at p s).elsewhere q same

/-! ## The exchanges that wait -/

/-- The request of `e` is in no queue of a number. -/
def Unqueued (s : State) (e : EntryIx) : Prop := ∀ c, e ∉ (s.chan c).retries ∧ .request e ∉ (s.chan c).fwd

/-- Every request in a queue is QUEUED, queued on its own number and in one place only. -/
structure QueuesAgree (s : State) : Prop where
  on : ∀ c, QueuedOn s c
  retry : ∀ c, ∀ e ∈ (s.chan c).retries, (s.entry e).st = .queued
  waiting : ∀ c e, .request e ∈ (s.chan c).fwd → (s.entry e).st = .queued

theorem queuesAgree_of_exchangesOk {s : State} (h : ExchangesOk s) : QueuesAgree s where
  on := queuedOn_of_exchangesOk h
  retry c e he := (h.retry c e he).1
  waiting c e he := (h.waiting c e he).1

/-- From `s` to `t` no entry changed, and no queue of requests gained an item or was put in another order. -/
structure Dequeues (s t : State) : Prop where
  exch : t.exch = s.exch
  retries : ∀ c, (t.chan c).retries.Sublist (s.chan c).retries
  fwd : ∀ c, (t.chan c).fwd.Sublist (s.chan c).fwd

theorem Dequeues.of_same {s t : State} (exch : t.exch = s.exch) (chans : t.chans = s.chans) : Dequeues s t where
  exch := exch
  retries c := by simp only [State.chan, chans, List.Sublist.refl]
  fwd c := by simp only [State.chan, chans, List.Sublist.refl]

theorem Dequeues.trans {s t u : State} (h : Dequeues s t) (k : Dequeues t u) : Dequeues s u :=
  ⟨k.exch.trans h.exch, fun c => (k.retries c).trans (h.retries c), fun c => (k.fwd c).trans (h.fwd c)⟩

theorem Dequeues.setChan (s : State) (c : Chn) (v : Chan) (retries : v.retries.Sublist (s.chan c).retries)
    (fwd : v.fwd.Sublist (s.chan c).fwd) : Dequeues s (s.setChan c v) where
  exch := rfl
  retries d := by
    rw [State.setChan_chan]
    split
    · next same => rwa [same]
    · exact .refl _
  fwd d := by
    rw [State.setChan_chan]
    split
    · next same => rwa [same]
    · exact .refl _

theorem Dequeues.entry {s t : State} (h : Dequeues s t) (e : EntryIx) : t.entry e = s.entry e := by
  simp only [State.entry, h.exch]

theorem Dequeues.queuesAgree {s t : State} (h : Dequeues s t) (ok : QueuesAgree s) : QueuesAgree t where
  on c :=
    { retry := fun e he => by rw [h.entry]; exact (ok.on c).retry e ((h.retries c).subset he)
      waiting := fun e he => by rw [h.entry]; exact (ok.on c).waiting e ((h.fwd c).subset he)
      retriesOnce := (ok.on c).retriesOnce.sublist (h.retries c)
      waitingOnce := (ok.on c).waitingOnce.sublist ((h.fwd c).filterMap _) }
  retry c e he := by rw [h.entry]; exact ok.retry c e ((h.retries c).subset he)
  waiting c e he := by rw [h.entry]; exact ok.waiting c e ((h.fwd c).subset he)

/-- A request taken from the head of the retries of its number stands in no queue. -/
theorem unqueued_of_retry {s t : State} {c : Chn} {e : EntryIx} {rest : List EntryIx} (ok : QueuesAgree s) (h : Dequeues s t)
    (head : (s.chan c).retries = e :: rest) (taken : (t.chan c).retries = rest) : Unqueued t e := by
  obtain ⟨once, own⟩ := (ok.on c).retry e (by simp [head])
  intro d
  refine ⟨fun he => ?_, fun he => ?_⟩
  · have same : d = c := ((ok.on d).retry e ((h.retries d).subset he)).2.symm.trans own
    rw [same, taken] at he
    have nodup := (ok.on c).retriesOnce
    rw [head] at nodup
    exact (List.nodup_cons.mp nodup).1 he
  · have first := ((ok.on d).waiting e ((h.fwd d).subset he)).1
    exact absurd once (by simp [first])

/-- A request taken from the head of the forward queue of its number stands in no queue. -/
theorem unqueued_of_waiting {s t : State} {c : Chn} {e : EntryIx} {rest : List FwdItem} (ok : QueuesAgree s) (h : Dequeues s t)
    (head : (s.chan c).fwd = .request e :: rest) (taken : (t.chan c).fwd = rest) : Unqueued t e := by
  obtain ⟨first, own⟩ := (ok.on c).waiting e (by simp [head])
  intro d
  refine ⟨fun he => ?_, fun he => ?_⟩
  · have once := ((ok.on d).retry e ((h.retries d).subset he)).1
    exact absurd once (by simp [first])
  · have same : d = c := ((ok.on d).waiting e ((h.fwd d).subset he)).2.symm.trans own
    rw [same, taken] at he
    have nodup := (ok.on c).waitingOnce
    rw [head] at nodup
    exact (List.nodup_cons.mp nodup).1 (mem_requestsOf.mpr he)

theorem setEntry_queuesAgree {s : State} {e : EntryIx} (v : Entry) (ok : QueuesAgree s) (out : Unqueued s e) :
    QueuesAgree (s.setEntry e v) := by
  have retry : ∀ c, ∀ d ∈ (s.chan c).retries, (s.setEntry e v).entry d = s.entry d := fun c d hd => by
    rw [State.setEntry_entry, if_neg]
    rintro rfl
    exact (out c).1 hd
  have waiting : ∀ c d, .request d ∈ (s.chan c).fwd → (s.setEntry e v).entry d = s.entry d := fun c d hd => by
    rw [State.setEntry_entry, if_neg]
    rintro rfl
    exact (out c).2 hd
  exact
    { on := fun c =>
        { retry := fun d hd => by rw [retry c d hd]; exact (ok.on c).retry d hd
          waiting := fun d hd => by rw [waiting c d hd]; exact (ok.on c).waiting d hd
          retriesOnce := (ok.on c).retriesOnce
          waitingOnce := (ok.on c).waitingOnce }
      retry := fun c d hd => by rw [retry c d hd]; exact ok.retry c d hd
      waiting := fun c d hd => by rw [waiting c d hd]; exact ok.waiting c d hd }

/-- From `s`, where the queues agree, to `t` no exchange but a QUEUED one moved, and the queues agree in `t`. -/
def OnlyQueuedMove (s t : State) : Prop :=
  QueuesAgree s → QueuesAgree t ∧ ∀ e, (s.entry e).st ≠ .queued → t.entry e = s.entry e

theorem OnlyQueuedMove.trans {s t u : State} (h : OnlyQueuedMove s t) (k : OnlyQueuedMove t u) : OnlyQueuedMove s u :=
  fun ok => by
    obtain ⟨ok', stands⟩ := h ok
    obtain ⟨ok'', stands'⟩ := k ok'
    refine ⟨ok'', fun e busy => ?_⟩
    have entry := stands e busy
    exact (stands' e (by rwa [entry])).trans entry

theorem Dequeues.onlyQueuedMove {s t : State} (h : Dequeues s t) : OnlyQueuedMove s t :=
  fun ok => ⟨h.queuesAgree ok, fun e _ => h.entry e⟩

theorem startTx_dequeues (p : Port) (ty : Byte) (body : List Byte) (src : TxSource) (s : State) :
    Dequeues s (startTx p ty body src s) := by
  unfold startTx
  dsimp only
  split <;> exact .of_same rfl rfl

theorem grantPart_dequeues (p : Port) (f : IFrame) (rest : List IFrame) (s : State) : Dequeues s (grantPart p f rest s) := by
  refine Dequeues.trans ?_ (startTx_dequeues p _ _ _ _)
  split <;> exact .of_same rfl rfl

theorem grantReply_dequeues (p : Port) (c : Chn) (s : State) : Dequeues s (grantReply p c s) := by
  unfold grantReply
  split
  · next i rest _ =>
    have left : Dequeues s (s.setChan c { s.chan c with ret := rest }) := .setChan s c _ (.refl _) (.refl _)
    refine Dequeues.trans ?_ (startTx_dequeues p _ _ _ _)
    exact left.trans (.of_same rfl rfl)
  · exact .of_same rfl rfl

theorem forwardPost_dequeues (p : Port) (c : Chn) (m : PostItem) (s : State) : Dequeues s (forwardPost p c m s) := by
  refine Dequeues.trans ?_ (startTx_dequeues p _ _ _ _)
  split
  · split
    · exact .setChan s c _ (.refl _) (.refl _)
    · exact .of_same rfl rfl
  · exact .of_same rfl rfl

/-- A request that has left its queue is forwarded: no other exchange moves. -/
theorem forwardRequest_moves {p : Port} {c : Chn} {e : EntryIx} {s t : State} (h : Dequeues s t) (ok : QueuesAgree s)
    (queued : (s.entry e).st = .queued) (out : Unqueued t e) :
    QueuesAgree (forwardRequest p c e t) ∧
      ∀ d, (s.entry d).st ≠ .queued → (forwardRequest p c e t).entry d = s.entry d := by
  refine ⟨(startTx_dequeues p _ _ _ _).queuesAgree (setEntry_queuesAgree _ (h.queuesAgree ok) out), fun d busy => ?_⟩
  have other : d ≠ e := by
    rintro rfl
    exact busy queued
  exact ((startTx_dequeues p _ _ _ _).entry d).trans (by rw [State.setEntry_entry, if_neg other, h.entry])

theorem grantForward_onlyQueuedMove (p : Port) (c : Chn) (s : State) : OnlyQueuedMove s (grantForward p c s) := by
  intro ok
  have pointed : Dequeues s (s.setArb p { s.arb p with ptr4 := (s.arb p).ptr4.set (classOfChn s c) c }) := .of_same rfl rfl
  unfold grantForward
  dsimp only
  split
  · next e rest head =>
    have left := pointed.trans (.setChan _ c { s.chan c with retries := rest, lastForward := some s.time }
      (by simp [head]) (.refl _))
    exact forwardRequest_moves left ok (ok.retry c e (by simp [head]))
      (unqueued_of_retry ok left head (by rw [State.setChan_chan_self]))
  · split
    · next e rest head =>
      have left := pointed.trans (.setChan _ c { s.chan c with fwd := rest, lastForward := some s.time }
        (.refl _) (by simp [head]))
      exact forwardRequest_moves left ok (ok.waiting c e (by simp [head]))
        (unqueued_of_waiting ok left head (by rw [State.setChan_chan_self]))
    · next m rest head =>
      have left := pointed.trans (.setChan _ c { s.chan c with fwd := rest, lastForward := some s.time }
        (.refl _) (by simp [head]))
      exact (left.trans (forwardPost_dequeues p c m _)).onlyQueuedMove ok
    · exact pointed.onlyQueuedMove ok

theorem grant_onlyQueuedMove (p : Port) (s : State) : OnlyQueuedMove s (grant p s) := by
  have stays : OnlyQueuedMove s s := (Dequeues.of_same rfl rfl).onlyQueuedMove
  unfold grant
  split
  · split
    · exact (grantPart_dequeues _ _ _ _).onlyQueuedMove
    · split
      · exact (startTx_dequeues _ _ _ _ _).onlyQueuedMove
      · split
        · exact (grantReply_dequeues _ _ _).onlyQueuedMove
        · split
          · exact grantForward_onlyQueuedMove _ _ _
          · exact stays
  · exact stays

/-! ## What ends an event -/

theorem panelTake_spared (s : State) : Spared s (panelTake s) := by
  have taken := panelTake_taken s
  refine ⟨fun p => ?_, fun p => ?_, fun c => ?_, by rw [taken.radio]⟩
  · simp only [State.link, taken.links]
  · simp only [State.notice, taken.notices]
  · simp only [State.chan, taken.chans]

theorem settle_spared (s : State) : Spared s (settle s) := (panelTake_spared s).trans (grants_spared _)

theorem settle_transmissionsStand (s : State) : TransmissionsStand s (settle s) := by
  have taken := panelTake_taken s
  have panel : TransmissionsStand s (panelTake s) := fun p _ => by
    simp only [State.arb, State.link, taken.arbs, taken.links, and_self]
  exact panel.trans (grants_of_grant TransmissionsStand TransmissionsStand.trans grant_transmissionsStand _)

theorem settle_onlyQueuedMove (s : State) : OnlyQueuedMove s (settle s) := by
  have taken := panelTake_taken s
  exact (Dequeues.of_same taken.exch taken.chans).onlyQueuedMove.trans
    (grants_of_grant OnlyQueuedMove OnlyQueuedMove.trans grant_onlyQueuedMove _)

theorem settle_of_run {s : State} (busy : s.run.isSome = true) : settle s = grants s := by
  rw [settle, panelTake_of_run busy]

/-- Settles O18: the take and each grant spare all that a grant does not write, the frames in transmission and the exchanges that are
not QUEUED; and a take is made only where no run is in progress. -/
theorem settleFrame : Obligations.SettleFrame := by
  unfold Obligations.SettleFrame
  intro s
  dsimp only
  have spared : Spared s (settle s) := settle_spared s
  obtain ⟨cts, rts⟩ := radioSpared_eq.mp spared.radio
  refine ⟨settle_pending s, settle_time s, settle_policy s, settle_touch s, cts, rts, settle_session_state s,
    settle_secureInd s, settle_limitAt s, fun p => ?_, fun c => chanSpared_eq.mp (spared.chan c), fun ok e busy => ?_,
    fun busy => ?_⟩
  · obtain ⟨state, rx, errors, reserve, dataOut⟩ := linkSpared_eq.mp (spared.link p)
    obtain ⟨mask, set, again⟩ := noticeSpared_eq.mp (spared.notice p)
    exact ⟨state, rx, errors, reserve, dataOut, mask, set, again, settle_transmissionsStand s p⟩
  · exact (settle_onlyQueuedMove s (queuesAgree_of_exchangesOk ok)).2 e busy
  · have granted : Granted s (settle s) := by
      rw [settle_of_run busy]
      exact grants_granted s
    exact ⟨granted.run, granted.draws, granted.charged, granted.session⟩

end Sys2Proof.Proofs
end

section
/-! Which operations of the part touch the policy store, the session and the run in progress: every operation leaves all three but the
few named in `SessionClosed`, so a property of these three is proved operation by operation and holds of every command. -/

namespace Sys2Proof.Proofs

open Sys2Proof Sys2Proof.Machine Sys2Proof.Safety

/-- From `s` to `t` the policy store and the session stand, and a run in progress stays one of its source. -/
structure Quiet (s t : State) : Prop where
  policy : t.policy = s.policy
  session : t.session = s.session
  run : t.run.map Run.source = s.run.map Run.source

namespace Quiet

theorem refl (s : State) : Quiet s s := ⟨rfl, rfl, rfl⟩

theorem trans {s t u : State} (h : Quiet s t) (k : Quiet t u) : Quiet s u :=
  ⟨k.policy.trans h.policy, k.session.trans h.session, k.run.trans h.run⟩

theorem setDraw (s : State) (x : Screen) (v : Draw) : Quiet s (s.setDraw x v) := ⟨rfl, rfl, rfl⟩
theorem setTouch (s : State) (v : Touch) : Quiet s (s.setTouch v) := ⟨rfl, rfl, rfl⟩
theorem setTouchQueue (s : State) (x : Screen) (q : List TouchEvent) : Quiet s (s.setTouchQueue x q) := ⟨rfl, rfl, rfl⟩
theorem setRadio (s : State) (v : Radio) : Quiet s (s.setRadio v) := ⟨rfl, rfl, rfl⟩
theorem setTime (s : State) (t : Time) : Quiet s (s.setTime t) := ⟨rfl, rfl, rfl⟩

end Quiet

theorem quiet_of_traffic {s t : State} (h : Traffic s t) : Quiet s t := ⟨h.policy, h.session, by rw [h.run]⟩

theorem quiet_of_granted {s t : State} (h : Granted s t) : Quiet s t := ⟨h.policy, h.session, by rw [h.run]⟩

/-- Every write of the channel engine, the exchange table and the notice unit is a traffic step. -/
theorem traffic_closed : TrafficClosed Traffic where
  refl := Traffic.refl
  trans := Traffic.trans
  setChan := Traffic.setChan
  setEntry := Traffic.setEntry
  setNotice := Traffic.setNotice
  setParts s p _ := Traffic.setArb s p _
  setPointers s p _ _ := Traffic.setArb s p _
  setSource s p _ := Traffic.setArb s p _
  release s p n := release_traffic p n s

/-! ## Operations that leave the policy store, the session and the source of the run -/

theorem joinDraw_quiet (p : Port) (x : Screen) (n : Nat) (ty : FrameType) (f : DrawFrame) (s : State) :
    Quiet s (joinDraw p x n ty f s) := by
  unfold joinDraw
  split
  · exact quiet_of_traffic (verdict_traffic _ _ _ _ _ _)
  · exact Quiet.setDraw _ _ _

theorem takeDrawWindow_quiet (p : Port) (n : Nat) (body : List Byte) (s : State) : Quiet s (takeDrawWindow p n body s) := by
  unfold takeDrawWindow
  split
  · exact quiet_of_traffic (verdict_traffic _ _ _ _ _ _)
  · split
    · exact quiet_of_traffic (verdict_traffic _ _ _ _ _ _)
    · split
      · exact quiet_of_traffic (verdict_traffic _ _ _ _ _ _)
      · exact joinDraw_quiet _ _ _ _ _ _

theorem takeDrawPixels_quiet (p : Port) (n : Nat) (body : List Byte) (s : State) : Quiet s (takeDrawPixels p n body s) := by
  unfold takeDrawPixels
  split
  · exact quiet_of_traffic (verdict_traffic _ _ _ _ _ _)
  · split
    · exact quiet_of_traffic (verdict_traffic _ _ _ _ _ _)
    · exact joinDraw_quiet _ _ _ _ _ _

theorem joinTouch_quiet (x : Screen) (ev : TouchEvent) (s : State) : Quiet s (joinTouch x ev s).1 := by
  unfold joinTouch
  split
  · exact Quiet.setTouchQueue _ _ _
  · dsimp only
    split
    · split
      · exact Quiet.setTouchQueue _ _ _
      · exact Quiet.refl s
    · split
      · exact (Quiet.setTouchQueue s _ _).trans (quiet_of_traffic (latch_traffic _ _ _))
      · exact Quiet.setTouchQueue _ _ _

theorem deliver_quiet (o : Option Screen) (ev : TouchEvent) (s : State) : Quiet s (deliver o ev s).1 := by
  cases o
  · exact Quiet.refl s
  · exact joinTouch_quiet _ _ _

theorem setContact_quiet (i : Fin 2) (v : Option Contact) (s : State) : Quiet s (setContact i v s) := by
  unfold setContact
  split <;> exact Quiet.setTouch _ _

theorem slotStep_quiet (i : Fin 2) (seen : Option (Nat × Nat)) (s : State) : Quiet s (slotStep i seen s) := by
  unfold slotStep
  dsimp only
  split
  · exact (setContact_quiet _ _ _).trans (deliver_quiet _ _ _)
  · split
    · exact Quiet.refl s
    · split
      · exact (deliver_quiet _ _ _).trans (setContact_quiet _ _ _)
      · exact deliver_quiet _ _ _
  · exact (setContact_quiet _ _ _).trans (deliver_quiet _ _ _)
  · exact Quiet.refl s

theorem touchIdle_quiet (s : State) : Quiet s (touchIdle s) := Quiet.setTouch s _

theorem liftContact_quiet (i : Fin 2) (s : State) : Quiet s (liftContact i s) := by
  unfold liftContact
  split
  · exact deliver_quiet _ _ _
  · exact Quiet.refl s

theorem touchFault_quiet (s : State) : Quiet s (touchFault s) :=
  (Quiet.setTouch s { s.touch with link := .fault }).trans ((liftContact_quiet 0 _).trans ((liftContact_quiet 1 _).trans
    ((setContact_quiet 0 none _).trans ((setContact_quiet 1 none _).trans (quiet_of_traffic (latch_traffic _ _ _))))))

theorem readFailed_quiet (s : State) : Quiet s (readFailed s) := by
  unfold readFailed
  dsimp only
  split
  · exact (Quiet.setTouch s _).trans (touchFault_quiet _)
  · exact (Quiet.setTouch s _).trans (touchIdle_quiet _)

theorem readGood_quiet (r : List Byte) (s : State) : Quiet s (readGood r s) :=
  (Quiet.setTouch s { s.touch with failures := 0 }).trans ((slotStep_quiet 0 _ _).trans ((slotStep_quiet 1 _ _).trans
    (touchIdle_quiet _)))

theorem touchGone_quiet (p : Port) (s : State) : Quiet s (touchGone p s) := by
  unfold touchGone
  split
  · exact Quiet.setTouchQueue s _ _
  · exact Quiet.refl s

theorem txEnded_quiet (p : Port) (done : Bool) (src : TxSource) (s : State) : Quiet s (txEnded p done src s) := by
  cases src with
  | touch => exact touchGone_quiet _ _
  | part b => exact quiet_of_traffic (releaseBlock_traffic _ _ _)
  | notice =>
    unfold txEnded
    dsimp only
    split
    · exact quiet_of_traffic (noticeSent_traffic _ _)
    · exact quiet_of_traffic (noticeDiscarded_traffic _ _)
  | withdraw e => exact quiet_of_traffic (withdrawGone_traffic _ _)
  | reply e held dropped =>
    unfold txEnded
    dsimp only
    split
    · exact quiet_of_traffic (releaseHeld_traffic _ _)
    · exact quiet_of_traffic ((releaseHeld_traffic _ _).trans (replyGone_traffic _ _))
  | forward e ended =>
    cases ended with
    | some h => exact quiet_of_traffic (releaseHeld_traffic (some h) _)
    | none => exact quiet_of_traffic (forwardSent_traffic _ _)
  | post h => exact quiet_of_traffic (releaseHeld_traffic (some h) _)

theorem endTx_quiet (p : Port) (done : Bool) (s : State) : Quiet s (endTx p done s) := by
  unfold endTx
  split
  · exact (quiet_of_traffic (clearTx_traffic _ _)).trans (txEnded_quiet _ _ _ _)
  · exact Quiet.refl s

/-- A teardown cuts a run short, but the run stays one of its source (R138). -/
theorem tearDraw_quiet (x : Screen) (s : State) : Quiet s (tearDraw x s) := by
  unfold tearDraw
  dsimp only
  split
  · next r hr =>
    split
    · exact ⟨rfl, rfl, by rw [hr]; rfl⟩
    · exact ⟨rfl, rfl, rfl⟩
  · exact ⟨rfl, rfl, rfl⟩

theorem tearTouch_quiet (x : Screen) (s : State) : Quiet s (tearTouch x s) :=
  (Quiet.setTouchQueue s x _).trans (Quiet.setTouch _ _)

/-- A teardown up to the close of the session (R167). -/
theorem teardown_eq (p : Port) (st : Status) (s : State) :
    ∃ u, Quiet s u ∧ teardown p st s = latch .pd .linkChange (if p = .pd then closeForPd u else u) := by
  refine ⟨_, ?_, rfl⟩
  refine Quiet.trans (quiet_of_traffic (teardownTraffic p st s)) (Quiet.trans ?_ (quiet_of_traffic (clearNotices_traffic p _)))
  split
  · exact (tearDraw_quiet _ _).trans (tearTouch_quiet _ _)
  · exact Quiet.refl _

/-- The area that passes the checks of a policy write is the inactive one (R87). -/
theorem inactive_of_ok {code : Byte} {s : State} {i : AreaId} (h : inactiveArea code s = .ok i) : i ≠ s.policy.active := by
  unfold inactiveArea at h
  split at h
  · cases h
  · split at h
    · cases h
    · next other => cases h; exact other

/-! ## What the other operations are made of -/

/-- `C` holds of every change of the policy store, the session and the run that a timer, a teardown or the take of the panel arbiter
makes, and `E` of every change that a control request or the completion of a run makes; a change of the second kind may come
with changes of the first kind before and after it. -/
structure SessionClosed (C E : State → State → Prop) : Prop where
  quiet : ∀ {s t}, Quiet s t → C s t
  trans : ∀ {s t u}, C s t → C t u → C s u
  of : ∀ {s t}, C s t → E s t
  before : ∀ {s t u}, C s t → E t u → E s u
  after : ∀ {s t u}, E s t → C t u → E s u
  panelTake : ∀ s, C s (panelTake s)
  closeBlank : ∀ s colour, s.session.state = .active → C s (enterClosing (.blank colour) s)
  storeClose : ∀ s k, s.session.state = .opening → C s (storeClose k s)
  closePlain : ∀ s, s.session.state = .active → E s (enterClosing .plain s)
  openSession : ∀ s a, s.session.state = .idle → (readOpen a).rect.inverted = false → E s (openSession (readOpen a) s)
  runCompleted : ∀ s r, s.run = some r → E s (runCompleted r s)
  setArea : ∀ s i v, i ≠ s.policy.active → E s (setArea i v s)
  withdrawSwitch : ∀ s, E s (s.setPolicy { s.policy with pendingSwitch := none })
  deferSwitch : ∀ s i, s.session.state ≠ .idle → i ≠ s.policy.active → E s (deferSwitch i s)
  takeSwitch : ∀ s i, s.session.state = .idle → E s (takeSwitch i s)
  clearAll : ∀ s, s.session.state = .idle → E s (clearAll s)

namespace SessionClosed

variable {C E : State → State → Prop}

theorem refl (H : SessionClosed C E) (s : State) : C s s := H.quiet (Quiet.refl s)

theorem still (H : SessionClosed C E) (s : State) : E s s := H.of (H.refl s)

theorem quietly (H : SessionClosed C E) {s t : State} (h : Quiet s t) : E s t := H.of (H.quiet h)

theorem traffic (H : SessionClosed C E) {s t : State} (h : Traffic s t) : C s t := H.quiet (quiet_of_traffic h)

theorem of_ite (H : SessionClosed C E) {c : Prop} [Decidable c] {s t : State} (h : c → C s t) : C s (if c then t else s) := by
  split
  · next hc => exact h hc
  · exact H.refl s

theorem foldl (H : SessionClosed C E) {α : Type} {f : State → α → State} (h : ∀ s a, C s (f s a)) (l : List α) (s : State) :
    C s (l.foldl f s) := by
  induction l generalizing s with
  | nil => exact H.refl s
  | cons a l ih => exact H.trans (h s a) (ih _)

/-! ### What ends an event -/

theorem of_settle (H : SessionClosed C E) (s : State) : C s (settle s) :=
  H.trans (H.panelTake s) (H.quiet (quiet_of_granted (grants_granted _)))

theorem settled (H : SessionClosed C E) {s t : State} (h : E s t) : E s (settle t) := H.after h (H.of_settle t)

theorem settledIf (H : SessionClosed C E) {c : Prop} [Decidable c] {s t : State} (h : c → C s t) :
    C s (if c then settle t else s) := H.of_ite fun hc => H.trans (h hc) (H.of_settle t)

theorem of_byteEnd (H : SessionClosed C E) (p : Port) (s : State) : C s (byteEnd p s) := by
  rcases byteEnd_cases p s with ⟨eq, -⟩ | ⟨eq, -⟩ <;> rw [eq]
  · exact H.of_settle s
  · exact H.trans (H.of_settle s) (H.trans (H.quiet (endTx_quiet p true _)) (H.of_settle _))

theorem of_byteEvent (H : SessionClosed C E) {k : State → State} (h : ∀ s, E s (k s)) (p : Port) (s : State) :
    E s (byteEvent p k s) := H.before (H.traffic (clockOut_traffic p s)) (H.after (h _) (H.of_byteEnd p _))

/-! ### Timed events -/

theorem of_closeForPd (H : SessionClosed C E) (s : State) : C s (closeForPd s) := by
  unfold closeForPd
  split
  · exact H.refl s
  · next opening => exact H.storeClose s _ opening
  · next active => exact H.closeBlank s _ active
  · exact H.refl s

theorem of_teardown (H : SessionClosed C E) (p : Port) (st : Status) (s : State) : C s (teardown p st s) := by
  obtain ⟨u, quiet, eq⟩ := teardown_eq p st s
  rw [eq]
  exact H.trans (H.quiet quiet) (H.trans (H.of_ite fun _ => H.of_closeForPd u) (H.traffic (latch_traffic _ _ _)))

theorem of_stallPort (H : SessionClosed C E) (p : Port) (s : State) : C s (stallPort p s) :=
  H.trans (H.quiet (endTx_quiet p false s)) (H.trans (H.traffic (Traffic.setLink _ _ _))
    (H.trans (H.traffic (discardPartial_traffic p _)) (H.trans (H.traffic (setRx_traffic p _ _)) (H.of_teardown p _ _))))

theorem of_interByteEvent (H : SessionClosed C E) (p : Port) (s : State) : C s (interByteEvent p s) :=
  H.settledIf fun _ => H.traffic ((discardPartial_traffic p s).trans (countError_traffic p _))

theorem of_stallEvent (H : SessionClosed C E) (p : Port) (s : State) : C s (stallEvent p s) :=
  H.settledIf fun _ => H.of_stallPort p s

theorem of_refillEvent (H : SessionClosed C E) (c : Chn) (s : State) : C s (refillEvent c s) := by
  unfold refillEvent
  split
  · exact H.settledIf fun _ => H.traffic (Traffic.setChan _ _ _)
  · exact H.refl s

theorem of_lastForwardEvent (H : SessionClosed C E) (c : Chn) (s : State) : C s (lastForwardEvent c s) := by
  unfold lastForwardEvent
  split
  · exact H.settledIf fun _ => H.traffic (Traffic.setChan _ _ _)
  · exact H.refl s

theorem of_deadlineEvent (H : SessionClosed C E) (e : EntryIx) (s : State) : C s (deadlineEvent e s) :=
  H.settledIf fun _ => H.traffic (traffic_closed.of_deadlineReached e s)

theorem of_limitEvent (H : SessionClosed C E) (s : State) : C s (limitEvent s) :=
  H.settledIf fun reached => H.trans (H.closeBlank s _ reached.1) (H.traffic (latch_traffic _ _ _))

theorem of_gapEvent (H : SessionClosed C E) (c : Chn) (s : State) : C s (gapEvent c s) := by
  unfold gapEvent
  split
  · exact H.settledIf fun _ => H.refl s
  · exact H.refl s

/-- The tick: what it takes before the time moves, and the move (R22). -/
theorem of_tick (H : SessionClosed C E) (s : State) :
    C s ((settleRx (takeDue s)).setTime ((settleRx (takeDue s)).time + 1#32)) := by
  have due : C s (takeDue s) := by
    refine H.trans (H.foldl (fun s p => H.of_interByteEvent p s) allPorts s) ?_
    refine H.trans (H.foldl (fun s p => H.of_stallEvent p s) allPorts _) ?_
    refine H.trans (H.foldl (fun s c => H.of_refillEvent c s) allChns _) ?_
    refine H.trans (H.foldl (fun s c => H.of_lastForwardEvent c s) allChns _) ?_
    refine H.trans (H.foldl (fun s e => H.of_deadlineEvent e s) allEntries _) ?_
    exact H.trans (H.of_limitEvent _) (H.foldl (fun s c => H.of_gapEvent c s) allChns _)
  have rx : C (takeDue s) (settleRx (takeDue s)) := H.foldl (fun s p => H.traffic (setRx_traffic p _ s)) allPorts _
  exact H.trans due (H.trans rx (H.quiet (Quiet.setTime _ _)))

/-! ### Control requests -/

theorem of_actQueryLink (H : SessionClosed C E) (p : Port) (a : List Byte) (s : State) : E s (actQueryLink p a s).state := by
  unfold actQueryLink
  split
  · exact H.still s
  · split <;> exact H.still s

theorem of_actQueryChannel (H : SessionClosed C E) (p : Port) (a : List Byte) (s : State) :
    E s (actQueryChannel p a s).state := by
  unfold actQueryChannel
  split
  · exact H.still s
  · split
    · split <;> exact H.still s
    · split
      · split <;> exact H.still s
      · exact H.still s

theorem of_actHold (H : SessionClosed C E) (p : Port) (a : List Byte) (s : State) : E s (actHold p a s).state := by
  unfold actHold
  split
  · exact H.still s
  · exact H.of (H.traffic (setOwnHold_traffic _ _ _))

theorem of_actRelease (H : SessionClosed C E) (p : Port) (a : List Byte) (s : State) : E s (actRelease p a s).state := by
  unfold actRelease
  split
  · exact H.still s
  · exact H.of (H.trans (H.traffic (setOwnHold_traffic _ _ _)) (H.of_ite fun _ => H.traffic (latch_traffic _ _ _)))

theorem of_actSetBar (H : SessionClosed C E) (a : List Byte) (s : State) : E s (actSetBar a s).state := by
  unfold actSetBar
  split
  · exact H.still s
  · dsimp only
    split
    · exact H.still s
    · exact H.of (H.traffic (barChannel_traffic _ _ _))

theorem of_actClearBar (H : SessionClosed C E) (a : List Byte) (s : State) : E s (actClearBar a s).state := by
  unfold actClearBar
  split
  · exact H.still s
  · exact H.of (H.traffic (Traffic.setChan _ _ _))

theorem of_actWriteChannel (H : SessionClosed C E) (a : List Byte) (s : State) : E s (actWriteChannel a s).state := by
  unfold actWriteChannel
  split
  · exact H.still s
  · next i ok =>
    split
    · exact H.setArea s i _ (inactive_of_ok ok)
    · exact H.still s

theorem of_actRemoveChannel (H : SessionClosed C E) (a : List Byte) (s : State) : E s (actRemoveChannel a s).state := by
  unfold actRemoveChannel
  split
  · exact H.still s
  · next i ok =>
    split
    · exact H.setArea s i _ (inactive_of_ok ok)
    · exact H.still s

theorem of_actWriteSettings (H : SessionClosed C E) (a : List Byte) (s : State) : E s (actWriteSettings a s).state := by
  unfold actWriteSettings
  split
  · exact H.still s
  · next i ok =>
    split
    · exact H.setArea s i _ (inactive_of_ok ok)
    · exact H.still s

theorem of_actCopyArea (H : SessionClosed C E) (a : List Byte) (s : State) : E s (actCopyArea a s).state := by
  unfold actCopyArea
  split
  · exact H.still s
  · next i ok => exact H.setArea s i _ (inactive_of_ok ok)

theorem of_actActivate (H : SessionClosed C E) (a : List Byte) (s : State) : E s (actActivate a s).state := by
  unfold actActivate
  split
  · exact H.still s
  · next i _ =>
    split
    · exact H.withdrawSwitch s
    · next other =>
      split
      · next idle => exact H.takeSwitch s i idle
      · next busy => exact H.deferSwitch s i busy other

theorem of_actFullClear (H : SessionClosed C E) (a : List Byte) (s : State) : E s (actFullClear a s).state := by
  unfold actFullClear
  split
  · next idle => exact H.clearAll s idle
  · exact H.still s

theorem of_actOpenSession (H : SessionClosed C E) (a : List Byte) (s : State) : E s (actOpenSession a s).state := by
  unfold actOpenSession
  dsimp only
  split
  · exact H.still s
  · next idle =>
    split
    · exact H.still s
    · next upright => exact H.openSession s a (not_not.mp idle) (Bool.not_eq_true _ ▸ upright)

theorem of_actCloseSession (H : SessionClosed C E) (a : List Byte) (s : State) : E s (actCloseSession a s).state := by
  unfold actCloseSession
  split
  · exact H.still s
  · next opening =>
    split
    · exact H.still s
    · exact H.of (H.storeClose s _ opening)
  · next active =>
    cases closeOf a s with
    | blank colour => exact H.of (H.closeBlank s colour active)
    | plain => exact H.closePlain s active
  · exact H.still s

theorem of_actTouchRestart (H : SessionClosed C E) (a : List Byte) (s : State) : E s (actTouchRestart a s).state :=
  H.of (H.of_ite fun _ => H.quiet ((Quiet.setTouch s _).trans (touchIdle_quiet _)))

/-! ### Frames -/

theorem of_frameEvent (H : SessionClosed C E) (p : Port) (b : Byte) (want : RxFrame → Bool) {k : RxFrame → State → State}
    (h : ∀ f s, E s (k f s)) (s : State) : E s (frameEvent p b want k s) := by
  unfold frameEvent
  split
  · split
    · exact H.of_byteEvent (fun s => H.before (H.traffic (setRx_traffic p .hunt s)) (h _ _)) p s
    · exact H.still s
  all_goals exact H.still s

theorem of_handOn (H : SessionClosed C E) (p : Port) (f : RxFrame) {take : Nat → List Byte → State → State}
    (h : ∀ n b s, E s (take n b s)) (s : State) : E s (handOn p f take s) := by
  unfold handOn
  split
  · split
    · exact h _ _ _
    · exact H.of (H.traffic ((release_traffic _ _ _).trans (countError_traffic _ _)))
  · exact H.of (H.traffic (pushPart_traffic _ _ _))
  · exact H.still s
  · exact H.of (H.traffic (countError_traffic _ _))

theorem of_typedFrame (H : SessionClosed C E) (ty : FrameType) (p : Port) (b : Byte) {take : Nat → List Byte → State → State}
    (h : ∀ n body s, Quiet s (take n body s)) (s : State) : Leaves E s (.next (typedFrame ty p b take s)) :=
  ⟨_, rfl, H.of_frameEvent p b _ (fun f s => H.of_handOn p f (fun n body s => H.quietly (h n body s)) s) s⟩

theorem of_trafficFrame (H : SessionClosed C E) (ty : FrameType) (p : Port) (b : Byte)
    {take : Nat → List Byte → State → State} (h : ∀ n body s, Traffic s (take n body s)) (s : State) :
    Leaves E s (.next (typedFrame ty p b take s)) := H.of_typedFrame ty p b (fun n body s => quiet_of_traffic (h n body s)) s

theorem of_endpoint (H : SessionClosed C E) (c : Ctl) (p : Port) {act : List Byte → State → Answered}
    (h : ∀ a s, E s (act a s).state) (n : Nat) (body : List Byte) (s : State) : E s (endpoint c p act n body s) := by
  have asked : E s (checked c p (argsOf body) (act (argsOf body)) (release p (n - 1) s)).state := by
    refine H.before (H.traffic (release_traffic p (n - 1) s)) ?_
    unfold checked
    split
    · exact H.still _
    · split
      · exact H.still _
      · exact h _ _
  exact H.after asked (H.traffic (pushPart_traffic _ _ _))

theorem of_controlFrame (H : SessionClosed C E) (c : Ctl) (p : Port) (b : Byte) {act : List Byte → State → Answered}
    (h : ∀ a s, E s (act a s).state) (s : State) : Leaves E s (.next (controlFrame c p b act s)) :=
  ⟨_, rfl, H.of_frameEvent p b _ (fun f s => H.of_handOn p f (H.of_endpoint c p h) s) s⟩

/-- A control request, whatever it asks for. -/
theorem of_ctlCommand (H : SessionClosed C E) (c : Ctl) (p : Port) (b : Byte) (s : State) :
    Leaves E s (exec (ctlCommand c p b) s) := by
  cases c with
  | queryLink => exact H.of_controlFrame _ p b (H.of_actQueryLink p) s
  | queryChannel => exact H.of_controlFrame _ p b (H.of_actQueryChannel p) s
  | querySession => exact H.of_controlFrame _ p b (fun _ s => H.still s) s
  | queryNotices => exact H.of_controlFrame _ p b (fun _ s => H.of (H.traffic (takeNotices_traffic p s))) s
  | setNoticeMask => exact H.of_controlFrame _ p b (fun _ s => H.of (H.traffic (replaceMask_traffic p _ s))) s
  | hold => exact H.of_controlFrame _ p b (H.of_actHold p) s
  | release => exact H.of_controlFrame _ p b (H.of_actRelease p) s
  | setBar => exact H.of_controlFrame _ p b H.of_actSetBar s
  | clearBar => exact H.of_controlFrame _ p b H.of_actClearBar s
  | writeChannel => exact H.of_controlFrame _ p b H.of_actWriteChannel s
  | removeChannel => exact H.of_controlFrame _ p b H.of_actRemoveChannel s
  | writeSettings => exact H.of_controlFrame _ p b H.of_actWriteSettings s
  | copyArea => exact H.of_controlFrame _ p b H.of_actCopyArea s
  | activate => exact H.of_controlFrame _ p b H.of_actActivate s
  | fullClear => exact H.of_controlFrame _ p b H.of_actFullClear s
  | openSession => exact H.of_controlFrame _ p b H.of_actOpenSession s
  | closeSession => exact H.of_controlFrame _ p b H.of_actCloseSession s
  | touchRestart => exact H.of_controlFrame _ p b H.of_actTouchRestart s

theorem of_controlMalformed (H : SessionClosed C E) (p : Port) (b : Byte) (s : State) :
    Leaves E s (execControlMalformed p b s) :=
  ⟨_, rfl, H.of_frameEvent p b _
    (fun f s => H.of_handOn p f (fun _ _ s => H.of (H.traffic (verdict_traffic _ _ _ _ _ s))) s) s⟩

theorem of_unknownRequest (H : SessionClosed C E) (p : Port) (b : Byte) (s : State) : Leaves E s (execUnknownRequest p b s) :=
  ⟨_, rfl, H.of_frameEvent p b _ (fun f s => H.of_handOn p f
    (fun _ _ s => H.of (H.traffic ((release_traffic p _ s).trans (pushPart_traffic _ _ _)))) s) s⟩

theorem of_control (H : SessionClosed C E) (p : Port) (b : Byte) (body : List Byte) (s : State) :
    Leaves E s (execControl p b body s) := by
  by_cases short : body.length < 2
  · rw [execControl, if_pos short]
    exact H.of_controlMalformed p b s
  · cases code : ctlOf (byteAt body 0) with
    | none =>
      rw [execControl, if_neg short, code]
      exact H.of_unknownRequest p b s
    | some c =>
      rw [EventClosed.execControl_of_code p b s short code]
      exact H.of_ctlCommand c p b s

theorem of_takeHello (H : SessionClosed C E) (p : Port) (block : BlockRef) (s : State) : C s (takeHello p block s) := by
  have up : Traffic s (latch .pd .linkChange (holdPeerChannels p (s.setLink p { s.link p with state := .up }))) :=
    (Traffic.setLink _ _ _).trans ((holdPeerChannels_traffic p _).trans (latch_traffic _ _ _))
  unfold takeHello
  split
  · exact H.trans (H.of_teardown p _ s) (H.traffic ((holdPeerChannels_traffic p _).trans (pushPart_traffic _ _ _)))
  · exact H.traffic (up.trans (pushPart_traffic _ _ _))
  · exact H.traffic (up.trans (pushPart_traffic _ _ _))

theorem of_heldHello (H : SessionClosed C E) (p : Port) (len : Nat) (h : RxHold) (s : State) : C s (heldHello p len h s) := by
  unfold heldHello
  split
  · split
    · exact H.trans (H.traffic (release_traffic _ _ _)) (H.of_takeHello _ _ _)
    · exact H.traffic ((release_traffic _ _ _).trans (countError_traffic _ _))
  · split
    · exact H.of_takeHello _ _ _
    · exact H.traffic ((freeReserve_traffic _ _).trans (countError_traffic _ _))
  · exact H.refl s
  · exact H.traffic (countError_traffic _ _)

theorem of_goodHello (H : SessionClosed C E) (p : Port) (f : RxFrame) (s : State) : C s (goodHello p f s) := by
  unfold goodHello
  split
  · exact H.of_heldHello _ _ _ _
  · exact H.of_heldHello _ _ _ _
  · exact H.of_heldHello _ _ _ _
  · exact H.trans (H.traffic (holdFrame_traffic _ _ _ _)) (H.of_heldHello _ _ _ _)

theorem of_hello (H : SessionClosed C E) (p : Port) (b : Byte) (s : State) : Leaves E s (execHello p b s) :=
  ⟨_, rfl, H.of_frameEvent p b _ (fun f s => H.of (H.of_goodHello p f s)) s⟩

theorem of_good (H : SessionClosed C E) (p : Port) (b : Byte) (f : RxFrame) (s : State) : Leaves E s (execGood p b f s) := by
  unfold execGood
  split
  · exact H.of_hello p b s
  · exact H.of_trafficFrame _ p b (traffic_closed.of_takeRequest p) s
  · exact H.of_trafficFrame _ p b (traffic_closed.of_takePost p) s
  · exact H.of_trafficFrame _ p b (traffic_closed.of_takeReply p) s
  · exact H.of_trafficFrame _ p b (traffic_closed.of_takeExtend p) s
  · exact H.of_trafficFrame _ p b (traffic_closed.of_takeCancel p) s
  · exact H.of_control p b _ s
  · exact H.of_typedFrame _ p b (takeDrawWindow_quiet p) s
  · exact H.of_typedFrame _ p b (takeDrawPixels_quiet p) s

/-! ### Bytes that take no good frame -/

theorem of_trafficByte (H : SessionClosed C E) {k : State → State} (h : ∀ s, Traffic s (k s)) (p : Port) (s : State) :
    Leaves E s (.next (byteEvent p k s)) := ⟨_, rfl, H.of_byteEvent (fun s => H.of (H.traffic (h s))) p s⟩

theorem of_idle (H : SessionClosed C E) (s : State) : Leaves E s (.next s) := ⟨_, rfl, H.still s⟩

theorem of_frameHeader (H : SessionClosed C E) (p : Port) (b : Byte) (s : State) : Leaves E s (execFrameHeader p b s) := by
  unfold execFrameHeader
  split
  · exact H.of_trafficByte (fun s => takeHeader_traffic p _ _ b s) p s
  all_goals exact H.of_idle s

theorem of_unknownType (H : SessionClosed C E) (p : Port) (b : Byte) (s : State) :
    Leaves E s (execUnknownTypeDiscard p b s) := by
  unfold execUnknownTypeDiscard
  split
  · exact H.of_trafficByte (fun s => (countError_traffic p s).trans ((setRx_traffic _ _ _).trans (reexamine_traffic _ _ _))) p s
  all_goals exact H.of_idle s

theorem of_lengthOverrun (H : SessionClosed C E) (p : Port) (b : Byte) (s : State) :
    Leaves E s (execLengthOverrunDiscard p b s) := by
  unfold execLengthOverrunDiscard
  split
  · exact H.of_trafficByte (fun s => (countError_traffic p s).trans ((setRx_traffic _ _ _).trans
      ((reexamine_traffic _ _ _).trans ((reexamine_traffic _ _ _).trans (reexamine_traffic _ _ _))))) p s
  all_goals exact H.of_idle s

theorem of_crcMismatch (H : SessionClosed C E) (p : Port) (b : Byte) (s : State) : Leaves E s (execCrcMismatch p b s) := by
  unfold execCrcMismatch
  split
  · exact H.of_trafficByte (fun s => (setRx_traffic p _ s).trans ((releaseHold_traffic _ _ _).trans (countError_traffic _ _))) p s
  all_goals exact H.of_idle s

theorem of_receiveByte (H : SessionClosed C E) (p : Port) (b : Byte) (s : State) :
    Leaves E s (execReceiveAssemblyByte p b s) := by
  unfold execReceiveAssemblyByte
  split
  · exact H.of_trafficByte (fun s => setRx_traffic p _ s) p s
  · exact H.of_unknownType p b s
  · exact H.of_lengthOverrun p b s
  · exact H.of_frameHeader p b s
  · exact H.of_crcMismatch p b s
  · exact H.of_good p b _ s

/-! ### Every command -/

theorem of_timed (H : SessionClosed C E) {f : State → State} (h : ∀ s, C s (f s)) (s : State) : Leaves E s (.next (f s)) :=
  ⟨_, rfl, H.of (h s)⟩

theorem of_settled (H : SessionClosed C E) {s t : State} (h : E s t) : Leaves E s (.next (settle t)) := ⟨_, rfl, H.settled h⟩

theorem of_framingError (H : SessionClosed C E) (s : State) : Leaves E s (execFramingError s) := by
  unfold execFramingError
  split
  · exact H.of_settled (H.of (H.traffic ((discardPartial_traffic _ _).trans (countError_traffic _ _))))
  · exact H.of_timed (fun s => H.traffic (setRx_traffic .rd _ s)) s

theorem of_channelCommand (H : SessionClosed C E) {f : Chn → State → State} (h : ∀ c s, C s (f c s)) (c : Nat) (s : State) :
    Leaves E s (match chnOf c with | some c => .next (f c s) | none => .next s) := by
  cases chnOf c with
  | none => exact H.of_idle s
  | some c => exact H.of_timed (h c) s

theorem of_deadline (H : SessionClosed C E) (e : Nat) (s : State) : Leaves E s (execDeadline e s) := by
  unfold execDeadline
  split
  · exact H.of_timed (H.of_deadlineEvent _) s
  · exact H.of_idle s

theorem of_runComplete (H : SessionClosed C E) (s : State) : Leaves E s (execRunComplete s) := by
  unfold execRunComplete
  split
  · next r running => exact H.of_settled (H.runCompleted s r running)
  · exact H.of_idle s

theorem of_touchReadNack (H : SessionClosed C E) (s : State) : Leaves E s (execTouchReadNack s) := by
  unfold execTouchReadNack
  split
  · exact H.of_settled (H.quietly (readFailed_quiet s))
  · exact H.of_idle s

theorem of_touchReadComplete (H : SessionClosed C E) (report : List Byte) (s : State) :
    Leaves E s (execTouchReadComplete report s) := by
  unfold execTouchReadComplete
  split
  · split
    · exact H.of_settled (H.quietly (readGood_quiet report s))
    · exact H.of_settled (H.quietly (readFailed_quiet s))
  · exact H.of_idle s

/-- Every command but the power-on reset, which writes the whole state. -/
theorem of_exec (H : SessionClosed C E) (i : Instr) (s : State) (reset : i ≠ .powerOnReset) : Leaves E s (exec i s) := by
  cases i with
  | powerOnReset => exact absurd rfl reset
  | timeBaseTick => exact H.of_timed H.of_tick s
  | frameHeader p b => exact H.of_frameHeader p b s
  | unknownTypeDiscard p b => exact H.of_unknownType p b s
  | lengthOverrunDiscard p b => exact H.of_lengthOverrun p b s
  | crcMismatch p b => exact H.of_crcMismatch p b s
  | interByteTimeout p => exact H.of_timed (H.of_interByteEvent p) s
  | framingError => exact H.of_framingError s
  | ctsChange a l => exact ⟨_, rfl, H.quietly (Quiet.setRadio _ _)⟩
  | hello p b => exact H.of_hello p b s
  | request p b => exact H.of_trafficFrame _ p b (traffic_closed.of_takeRequest p) s
  | post p b => exact H.of_trafficFrame _ p b (traffic_closed.of_takePost p) s
  | reply p b => exact H.of_trafficFrame _ p b (traffic_closed.of_takeReply p) s
  | extend p b => exact H.of_trafficFrame _ p b (traffic_closed.of_takeExtend p) s
  | cancel p b => exact H.of_trafficFrame _ p b (traffic_closed.of_takeCancel p) s
  | drawWindow p b => exact H.of_typedFrame _ p b (takeDrawWindow_quiet p) s
  | drawPixels p b => exact H.of_typedFrame _ p b (takeDrawPixels_quiet p) s
  | unknownRequest p b => exact H.of_unknownRequest p b s
  | queryLink p b => exact H.of_ctlCommand .queryLink p b s
  | queryChannel p b => exact H.of_ctlCommand .queryChannel p b s
  | querySession p b => exact H.of_ctlCommand .querySession p b s
  | queryNotices p b => exact H.of_ctlCommand .queryNotices p b s
  | setNoticeMask p b => exact H.of_ctlCommand .setNoticeMask p b s
  | hold p b => exact H.of_ctlCommand .hold p b s
  | release p b => exact H.of_ctlCommand .release p b s
  | setBar p b => exact H.of_ctlCommand .setBar p b s
  | clearBar p b => exact H.of_ctlCommand .clearBar p b s
  | writeChannel p b => exact H.of_ctlCommand .writeChannel p b s
  | removeChannel p b => exact H.of_ctlCommand .removeChannel p b s
  | writeSettings p b => exact H.of_ctlCommand .writeSettings p b s
  | copyArea p b => exact H.of_ctlCommand .copyArea p b s
  | activate p b => exact H.of_ctlCommand .activate p b s
  | fullClear p b => exact H.of_ctlCommand .fullClear p b s
  | openSession p b => exact H.of_ctlCommand .openSession p b s
  | closeSession p b => exact H.of_ctlCommand .closeSession p b s
  | touchRestart p b => exact H.of_ctlCommand .touchRestart p b s
  | transmissionComplete p => exact H.of_timed (fun s => H.settledIf fun _ => H.quiet (endTx_quiet p true s)) s
  | gapWaitEnd c => exact H.of_channelCommand H.of_gapEvent c s
  | lastForwardTimeExpiry c => exact H.of_channelCommand H.of_lastForwardEvent c s
  | refill c => exact H.of_channelCommand H.of_refillEvent c s
  | deadline e => exact H.of_deadline e s
  | stall p => exact H.of_timed (H.of_stallEvent p) s
  | sessionLimitExpiry => exact H.of_timed H.of_limitEvent s
  | runComplete => exact H.of_runComplete s
  | attentionAssert => exact ⟨_, rfl, H.quietly (Quiet.setTouch _ _)⟩
  | touchReadNack => exact H.of_touchReadNack s
  | touchReadComplete report => exact H.of_touchReadComplete report s
  | attentionRelease => exact ⟨_, rfl, H.quietly (Quiet.setTouch _ _)⟩
  | controlMalformed p b => exact H.of_controlMalformed p b s
  | receiveAssemblyByte p b => exact H.of_receiveByte p b s

/-- A step leaves the policy store, the session and the run as after reset, or makes a change of the second kind. -/
theorem of_step (H : SessionClosed C E) {s t : State} (h : step s = .next t) : Quiet State.reset t ∨ E s t := by
  unfold step at h
  split at h
  · cases h
    exact .inr (H.still s)
  · next i rest _ =>
    by_cases reset : i = .powerOnReset
    · subst reset
      cases h
      exact .inl ⟨rfl, rfl, rfl⟩
    · obtain ⟨u, next, event⟩ := H.of_exec i { s with pending := rest } reset
      rw [next] at h
      cases h
      have taken : Quiet s { s with pending := rest } := ⟨rfl, rfl, rfl⟩
      exact .inr (H.before (H.quiet taken) event)

end SessionClosed

end Sys2Proof.Proofs
end

section
/-! The session controller is consistent after every command (R93, R94, R105, R107 to R116). -/

namespace Sys2Proof.Proofs

open Sys2Proof Sys2Proof.Machine Sys2Proof.Safety

/-! ## What the changes of the session write -/

theorem latchAll_policy (k : Condition) (s : State) : (latchAll k s).policy = s.policy := (latchAll_traffic k s).policy
theorem latchAll_session (k : Condition) (s : State) : (latchAll k s).session = s.session := (latchAll_traffic k s).session

/-- The record of a session that becomes ACTIVE at `now` (R109). -/
def startedRecord (now : Time) (r : SessRecord) : SessRecord := { r with start := some now }

/-- The record of a session that closes with blank in `colour` (R114, R115). -/
def closingRecord (colour : Half) (r : SessRecord) : SessRecord :=
  { r with closeReq := none, fill := some ⟨r.rect.y0, r.rect.y1⟩, fillColour := some colour }

/-- The record of an OPEN_SESSION as it is stored (R106, R107). -/
def openedRecord (a : OpenArgs) : SessRecord :=
  { rect := a.rect, capture := a.capture, limit := a.limit, openColour := a.colour, start := none, closeReq := none,
    fill := none, fillColour := none }

theorem enterActive_policy (s : State) : (enterActive s).policy = s.policy := latchAll_policy _ _

theorem enterActive_session {s : State} {r : SessRecord} (h : s.session.record = some r) :
    ∃ e, (enterActive s).session =
      { state := .active, record := some (startedRecord s.time r), secureInd := true, limitAt := some e } := by
  refine ⟨after s.time (1000 * r.limit), (latchAll_session _ _).trans ?_⟩
  simp [editRecord, h, startedRecord, State.setSession]

theorem closeBlank_policy (colour : Half) (s : State) : (enterClosing (.blank colour) s).policy = s.policy :=
  latchAll_policy .sessionChange _

theorem closeBlank_session {s : State} {r : SessRecord} (colour : Half) (h : s.session.record = some r) :
    (enterClosing (.blank colour) s).session =
      { state := .closing, record := some (closingRecord colour r), secureInd := false, limitAt := none } := by
  simp [enterClosing, editRecord, latchAll_session, h, closingRecord, State.setSession]

/-- A close without blank returns to IDLE from a session that has stopped (R114, R116). -/
theorem closePlain_eq (s : State) :
    ∃ u, enterClosing .plain s = returnToIdle u ∧ u.session.secureInd = false ∧ u.session.limitAt = none :=
  ⟨_, rfl, by rw [latchAll_session]; rfl, by rw [latchAll_session]; rfl⟩

theorem takePending_pendingSwitch (s : State) : (takePending s).policy.pendingSwitch = none := by
  unfold takePending
  split
  · rw [takeSwitch_policy]
  · assumption

theorem openSession_cases (a : OpenArgs) (s : State) :
    ∃ u, u.policy = s.policy ∧
      u.session = { state := .opening, record := some (openedRecord a), secureInd := false, limitAt := none } ∧
      (openSession a s = u ∧ adRunInProgress u = true ∨ openSession a s = enterActive u) := by
  refine ⟨latchAll .sessionChange (s.setSession
      { state := .opening, record := some (openedRecord a), secureInd := false, limitAt := none }),
    latchAll_policy _ _, latchAll_session _ _, ?_⟩
  unfold openSession
  dsimp only
  split
  · next running => exact .inl ⟨rfl, running⟩
  · exact .inr rfl

/-! ## The session states, one by one -/

theorem adRun_iff (s : State) : AdRun s ↔ s.run.map Run.source = some (.frame .ad) := by
  simp [AdRun]

theorem adRun_of_adRunInProgress {s : State} (h : adRunInProgress s = true) : AdRun s := by
  unfold adRunInProgress at h
  split at h
  · next r hr => exact ⟨r, hr, by simpa using h⟩
  · cases h

/-- A pending switch never names the active area (R93). -/
def PendingOther (s : State) : Prop := ∀ i, s.policy.pendingSwitch = some i → i ≠ s.policy.active

theorem PendingOther.of_policy {s t : State} (h : PendingOther s) (same : t.policy = s.policy) : PendingOther t := by
  unfold PendingOther
  rwa [same]

theorem sessionOk_idle {s : State}
    (session : s.session = { state := .idle, record := none, secureInd := false, limitAt := none })
    (pending : s.policy.pendingSwitch = none) : SessionOk s := by
  constructor <;> simp [session, pending]

/-- Out of IDLE a record is present, and what SECURE_IND, the timer, the record and the run have to be follows the state. -/
theorem sessionOk_busy {s : State} {st : SessState} {r : SessRecord} {on : Bool} {limit : Option Time}
    (session : s.session = { state := st, record := some r, secureInd := on, limitAt := limit }) (busy : st ≠ .idle)
    (secureInd : on = true ↔ st = .active) (timer : limit.isSome = true ↔ st = .active) (fields : RecordOk st r)
    (opening : st = .opening → AdRun s)
    (last : ∀ f, r.fill = some f → f.last < f.next → ∃ q, s.run = some q ∧ q.source = .fill) (pending : PendingOther s) :
    SessionOk s where
  secureInd := by rw [session]; exact secureInd
  record := by rw [session]; exact ⟨fun _ => busy, fun _ => rfl⟩
  timer := by rw [session]; exact timer
  fields q hq := by
    rw [session] at hq ⊢
    cases hq
    exact fields
  opening := by rw [session]; exact opening
  lastFill q f hq := by
    rw [session] at hq
    cases hq
    exact last f
  pendingSwitch i hi := ⟨by rw [session]; exact busy, pending i hi⟩

/-- Fill rows are kept in CLOSING alone (R115). -/
theorem recordOk_no_fill {st : SessState} {r : SessRecord} (h : RecordOk st r) (other : st ≠ .closing) : r.fill = none :=
  Option.not_isSome_iff_eq_none.mp fun some => other (h.fill.mp some)

theorem recordOk_started {r : SessRecord} (h : RecordOk .opening r) (unasked : r.closeReq = none) (now : Time) :
    RecordOk .active (startedRecord now r) :=
  { h with
    start := nofun
    active := fun _ => rfl
    closeReq := fun _ => unasked
    fill := by simp [startedRecord, recordOk_no_fill h nofun]
    fillColour := by simpa [startedRecord] using h.fillColour }

/-- The rows to fill are those of the protected rectangle (R115). -/
theorem recordOk_closing {st : SessState} {r : SessRecord} (h : RecordOk st r) (colour : Half) :
    RecordOk .closing (closingRecord colour r) :=
  { rect := h.rect
    limitLow := h.limitLow
    limitHigh := h.limitHigh
    start := nofun
    active := nofun
    closeReq := fun _ => rfl
    fill := by simp [closingRecord]
    fillColour := by simp [closingRecord]
    rows := fun f hf => by
      cases hf
      exact ⟨rfl, le_rfl, Nat.le_succ_of_le h.rect.rows⟩ }

/-- A rectangle clamped to the panel that is not inverted lies on it (R106). -/
theorem rectOk_of_clampRect {x0 x1 y0 y1 : Nat} (h : (clampRect x0 x1 y0 y1).inverted = false) :
    RectOk (clampRect x0 x1 y0 y1) := by
  obtain ⟨columns, rows⟩ : ¬ _ ∧ ¬ _ := by simpa only [Rect.inverted, Bool.or_eq_false_iff, decide_eq_false_iff_not] using h
  exact ⟨Nat.le_of_not_lt columns, Nat.min_le_right _ _, Nat.le_of_not_lt rows, Nat.min_le_right _ _⟩

theorem recordOk_opened {a : List Byte} (upright : (readOpen a).rect.inverted = false) :
    RecordOk .opening (openedRecord (readOpen a)) where
  rect := rectOk_of_clampRect upright
  limitLow := by simp only [openedRecord, readOpen]; omega
  limitHigh := Nat.min_le_left _ _
  start _ := rfl
  active := nofun
  closeReq h := absurd rfl h
  fill := by simp [openedRecord]
  fillColour := by simp [openedRecord]
  rows := nofun

/-! ## What a consistent session is, by its state -/

theorem sessionOk_pendingOther {s : State} (ok : SessionOk s) : PendingOther s := fun i hi => (ok.pendingSwitch i hi).2

theorem sessionOk_record {s : State} (ok : SessionOk s) (busy : s.session.state ≠ .idle) :
    ∃ r, s.session.record = some r ∧ RecordOk s.session.state r := by
  obtain ⟨r, hr⟩ := Option.isSome_iff_exists.mp (ok.record.mpr busy)
  exact ⟨r, hr, ok.fields r hr⟩

/-- SECURE_IND is off and the limit timer is stopped out of ACTIVE (R110, R111). -/
theorem sessionOk_stopped {s : State} (ok : SessionOk s) (other : s.session.state ≠ .active) :
    s.session.secureInd = false ∧ s.session.limitAt = none :=
  ⟨Bool.eq_false_iff.mpr fun on => other (ok.secureInd.mp on),
    Option.not_isSome_iff_eq_none.mp fun runs => other (ok.timer.mp runs)⟩

theorem sessionOk_of_quiet {s t : State} (ok : SessionOk s) (h : Quiet s t) : SessionOk t := by
  obtain ⟨policy, session, run⟩ := h
  refine ⟨?_, ?_, ?_, ?_, ?_, ?_, ?_⟩
  · rw [session]; exact ok.secureInd
  · rw [session]; exact ok.record
  · rw [session]; exact ok.timer
  · rw [session]; exact ok.fields
  · rw [session, adRun_iff, run, ← adRun_iff]; exact ok.opening
  · have source : (∃ q, t.run = some q ∧ q.source = .fill) ↔ ∃ q, s.run = some q ∧ q.source = .fill := by
      rw [← Option.map_eq_some_iff, ← Option.map_eq_some_iff, run]
    rw [session, source]
    exact ok.lastFill
  · rw [policy, session]; exact ok.pendingSwitch

/-- Where no run is waited for, the run in progress may be any or none. -/
theorem sessionOk_of_unwaited {s t : State} (ok : SessionOk s) (policy : t.policy = s.policy) (session : t.session = s.session)
    (opening : s.session.state ≠ .opening) (rows : ∀ r f, s.session.record = some r → r.fill = some f → f.next ≤ f.last) :
    SessionOk t where
  secureInd := by rw [session]; exact ok.secureInd
  record := by rw [session]; exact ok.record
  timer := by rw [session]; exact ok.timer
  fields := by rw [session]; exact ok.fields
  opening h := absurd (session ▸ h) opening
  lastFill r f hr hf last := absurd last (Nat.not_lt.mpr (rows r f (session ▸ hr) hf))
  pendingSwitch := by rw [policy, session]; exact ok.pendingSwitch

/-- Without a run in progress none is waited for. -/
theorem sessionOk_unwaited {s : State} (ok : SessionOk s) (free : s.run = none) :
    s.session.state ≠ .opening ∧ ∀ r f, s.session.record = some r → r.fill = some f → f.next ≤ f.last := by
  refine ⟨fun opening => ?_, fun r f hr hf => Nat.le_of_not_lt fun last => ?_⟩
  · obtain ⟨q, hq, -⟩ := ok.opening opening
    simp [free] at hq
  · obtain ⟨q, hq, -⟩ := ok.lastFill r f hr hf last
    simp [free] at hq

theorem sessionOk_of_free {s t : State} (ok : SessionOk s) (free : s.run = none) (policy : t.policy = s.policy)
    (session : t.session = s.session) : SessionOk t := by
  obtain ⟨opening, rows⟩ := sessionOk_unwaited ok free
  exact sessionOk_of_unwaited ok policy session opening rows

/-! ## The changes of the session -/

theorem returnToIdle_sessionOk {s : State} (off : s.session.secureInd = false) (stopped : s.session.limitAt = none) :
    SessionOk (returnToIdle s) :=
  sessionOk_idle (by simp only [returnToIdle_session, off, stopped]) (takePending_pendingSwitch _)

theorem closePlain_sessionOk (s : State) : SessionOk (enterClosing .plain s) := by
  obtain ⟨u, eq, off, stopped⟩ := closePlain_eq s
  rw [eq]
  exact returnToIdle_sessionOk off stopped

theorem closeBlank_sessionOk {s : State} {st : SessState} {r : SessRecord} (colour : Half) (record : s.session.record = some r)
    (fields : RecordOk st r) (pending : PendingOther s) : SessionOk (enterClosing (.blank colour) s) :=
  sessionOk_busy (closeBlank_session colour record) nofun (by simp) (by simp) (recordOk_closing fields colour) nofun
    (fun f hf late => by cases hf; exact absurd late (Nat.not_lt.mpr fields.rect.rows))
    (pending.of_policy (closeBlank_policy colour s))

theorem enterClosing_sessionOk {s : State} {st : SessState} {r : SessRecord} (k : Close) (record : s.session.record = some r)
    (fields : RecordOk st r) (pending : PendingOther s) : SessionOk (enterClosing k s) := by
  cases k with
  | blank colour => exact closeBlank_sessionOk colour record fields pending
  | plain => exact closePlain_sessionOk s

theorem enterActive_sessionOk {s : State} {r : SessRecord} (record : s.session.record = some r) (fields : RecordOk .opening r)
    (unasked : r.closeReq = none) (pending : PendingOther s) : SessionOk (enterActive s) := by
  obtain ⟨e, session⟩ := enterActive_session record
  have started := recordOk_started fields unasked s.time
  exact sessionOk_busy session nofun (by simp) (by simp) started nofun
    (fun f hf => by rw [recordOk_no_fill started nofun] at hf; cases hf) (pending.of_policy (enterActive_policy s))

/-- The run that OPENING waited for is over: the session starts, or closes as it was asked to (R108, R113). -/
theorem endOpening_sessionOk {s : State} {r : SessRecord} (record : s.session.record = some r) (fields : RecordOk .opening r)
    (pending : PendingOther s) : SessionOk (endOpening s) := by
  unfold endOpening
  rw [record]
  split
  · exact enterClosing_sessionOk _ record fields pending
  · next unasked => exact enterActive_sessionOk record fields unasked pending

theorem openSession_sessionOk {s : State} {a : List Byte} (pending : PendingOther s)
    (upright : (readOpen a).rect.inverted = false) : SessionOk (openSession (readOpen a) s) := by
  obtain ⟨u, policy, session, ⟨eq, running⟩ | eq⟩ := openSession_cases (readOpen a) s <;> rw [eq]
  · exact sessionOk_busy session nofun (by simp) (by simp) (recordOk_opened upright)
      (fun _ => adRun_of_adRunInProgress running) nofun (pending.of_policy policy)
  · exact enterActive_sessionOk (r := openedRecord (readOpen a)) (by rw [session]) (recordOk_opened upright) rfl
      (pending.of_policy policy)

theorem storeClose_sessionOk {s : State} (k : Close) (ok : SessionOk s) (opening : s.session.state = .opening) :
    SessionOk (storeClose k s) := by
  obtain ⟨r, record, fields⟩ := sessionOk_record ok (by simp [opening])
  obtain ⟨off, stopped⟩ := sessionOk_stopped ok (by simp [opening])
  have session : (storeClose k s).session =
      { state := .opening, record := some { r with closeReq := some k }, secureInd := false, limitAt := none } := by
    simp [storeClose, editRecord, State.setSession, record, opening, off, stopped]
  rw [opening] at fields
  have stored : RecordOk .opening { r with closeReq := some k } := { fields with closeReq := absurd rfl }
  exact sessionOk_busy session nofun (by simp) (by simp) stored (fun _ => ok.opening opening)
    (fun f hf => by rw [recordOk_no_fill stored nofun] at hf; cases hf)
    ((sessionOk_pendingOther ok).of_policy rfl)

/-! ## The panel link -/

/-- A fill run is taken in CLOSING, for a row that is left (R115). -/
theorem fillRun_some {s : State} {q : Run} (h : fillRun s = some q) :
    q.source = .fill ∧ s.session.state = .closing ∧
      ∃ r f, s.session.record = some r ∧ r.fill = some f ∧ f.next ≤ f.last := by
  unfold fillRun at h
  split at h
  · next r closing record =>
    split at h
    · next f fill =>
      split at h
      · next row => cases h; exact ⟨rfl, closing, r, f, record, fill, row⟩
      · cases h
    · cases h
  · cases h

/-- The record once the run of its next fill row has been taken (R115). -/
def nextRowRecord (r : SessRecord) : SessRecord := { r with fill := r.fill.map fun f => { f with next := f.next + 1 } }

theorem takeFill_sessionOk {s : State} (ok : SessionOk s) : SessionOk (takeFill s) := by
  unfold takeFill
  split
  · next q free taken =>
    obtain ⟨source, closing, r, f, record, fill, row⟩ := fillRun_some taken
    have fields := ok.fields r record
    obtain ⟨off, stopped⟩ := sessionOk_stopped ok (by simp [closing])
    have session : (nextFillRow (s.setRun (some q))).session =
        { state := .closing, record := some (nextRowRecord r), secureInd := false, limitAt := none } := by
      simp [nextFillRow, editRecord, State.setSession, State.setRun, record, closing, off, stopped, nextRowRecord]
    rw [closing] at fields
    have next : RecordOk .closing (nextRowRecord r) :=
      { fields with
        fill := by simp [nextRowRecord, fill]
        rows := fun g hg => by
          obtain ⟨last, first, -⟩ := fields.rows f fill
          rw [nextRowRecord, fill] at hg
          cases hg
          exact ⟨last, Nat.le_succ_of_le first, Nat.succ_le_succ row⟩ }
    exact sessionOk_busy session nofun (by simp) (by simp) next nofun (fun _ _ _ => ⟨q, rfl, source⟩)
      ((sessionOk_pendingOther ok).of_policy rfl)
  · exact ok

theorem panelTake_sessionOk {s : State} (ok : SessionOk s) : SessionOk (panelTake s) := by
  unfold panelTake
  split
  · next free =>
    have pd : SessionOk (takePd s) := by
      unfold takePd
      split
      · exact ok
      · exact sessionOk_of_free ok (Option.isNone_iff_eq_none.mp free) rfl rfl
    have fill := takeFill_sessionOk pd
    unfold takeAd
    split
    · next left =>
      have free' := Option.isNone_iff_eq_none.mp (Bool.and_eq_true_iff.mp left).1
      exact sessionOk_of_free fill free' rfl rfl
    · exact fill
  · exact ok

theorem fillFinished_closing {s : State} (h : fillFinished s = true) : s.session.state = .closing := by
  simp only [fillFinished, Bool.and_eq_true, beq_iff_eq] at h
  exact h.1

/-- A fill run that is not the last leaves a row to take (R115, R137). -/
theorem rows_left {s : State} (ok : SessionOk s) (h : fillFinished s = false) {r : SessRecord} {f : FillProgress}
    (record : s.session.record = some r) (fill : r.fill = some f) : f.next ≤ f.last := by
  have closing := (ok.fields r record).fill.mp (by rw [fill]; rfl)
  simpa [fillFinished, closing, record, fill] using h

/-- The source of the run that is waited for (R107, R115). -/
theorem source_of_opening {s : State} {q : Run} (ok : SessionOk s) (running : s.run = some q)
    (opening : s.session.state = .opening) : q.source = .frame .ad := by
  obtain ⟨r, hr, source⟩ := ok.opening opening
  rw [running] at hr
  cases hr
  exact source

theorem source_of_lastFill {s : State} {q : Run} (ok : SessionOk s) (running : s.run = some q) {r : SessRecord}
    {f : FillProgress} (record : s.session.record = some r) (fill : r.fill = some f) (last : f.last < f.next) :
    q.source = .fill := by
  obtain ⟨r, hr, source⟩ := ok.lastFill r f record fill last
  rw [running] at hr
  cases hr
  exact source

/-- After a run of a frame of `x`: OPENING ends where it waited for this run (R108). -/
theorem frameCompleted_sessionOk {s t : State} {q : Run} {x : Screen} (ok : SessionOk s) (running : s.run = some q)
    (source : q.source = .frame x) (policy : t.policy = s.policy) (session : t.session = s.session) :
    SessionOk (if x = .ad ∧ t.session.state = .opening then endOpening t else t) := by
  split
  · next ends =>
    have opening : s.session.state = .opening := session ▸ ends.2
    obtain ⟨r, record, fields⟩ := sessionOk_record ok (by rw [opening]; nofun)
    rw [opening] at fields
    exact endOpening_sessionOk (session ▸ record) fields ((sessionOk_pendingOther ok).of_policy policy)
  · next stays =>
    refine sessionOk_of_unwaited ok policy session (fun opening => stays ⟨?_, session ▸ opening⟩)
      fun r f record fill => Nat.le_of_not_lt fun last => ?_
    · have ad := source_of_opening ok running opening
      rw [source] at ad
      cases ad
      rfl
    · have fillRun := source_of_lastFill ok running record fill last
      rw [source] at fillRun
      cases fillRun

theorem runCompleted_sessionOk {s : State} {q : Run} (ok : SessionOk s) (running : s.run = some q) :
    SessionOk (runCompleted q s) := by
  unfold runCompleted
  dsimp only
  split
  · next x source =>
    cases q.last with
    | none => exact frameCompleted_sessionOk ok running source rfl rfl
    | some n => exact frameCompleted_sessionOk ok running source rfl rfl
  · next source =>
    split
    · next finished =>
      have closing : s.session.state = .closing := fillFinished_closing finished
      obtain ⟨off, stopped⟩ := sessionOk_stopped ok (by rw [closing]; nofun)
      exact returnToIdle_sessionOk off stopped
    · next left =>
      refine sessionOk_of_unwaited ok rfl rfl (fun opening => ?_) fun r f => rows_left ok (Bool.eq_false_iff.mpr left)
      have ad := source_of_opening ok running opening
      rw [source] at ad
      cases ad

/-! ## The policy store -/

/-- The selector, the pending switch, the session and the source of the run are all that the session's consistency reads. -/
theorem sessionOk_of_pending {s t : State} (ok : SessionOk s) (session : t.session = s.session) (run : t.run = s.run)
    (pending : ∀ i, t.policy.pendingSwitch = some i → s.session.state ≠ .idle ∧ i ≠ t.policy.active) : SessionOk t where
  secureInd := by rw [session]; exact ok.secureInd
  record := by rw [session]; exact ok.record
  timer := by rw [session]; exact ok.timer
  fields := by rw [session]; exact ok.fields
  opening := by rw [session, adRun_iff, run, ← adRun_iff]; exact ok.opening
  lastFill := by rw [session, run]; exact ok.lastFill
  pendingSwitch := by rw [session]; exact pending

theorem setArea_sessionOk {s : State} (i : AreaId) (v : Area) (ok : SessionOk s) : SessionOk (setArea i v s) := by
  cases i <;> exact sessionOk_of_pending ok rfl rfl ok.pendingSwitch

/-- A pending switch already present stays, and a new one is of the inactive area (R93). -/
theorem deferSwitch_sessionOk {s : State} {i : AreaId} (ok : SessionOk s) (busy : s.session.state ≠ .idle)
    (other : i ≠ s.policy.active) : SessionOk (deferSwitch i s) := by
  refine sessionOk_of_pending ok rfl rfl fun j hj => ⟨busy, ?_⟩
  have asked : s.policy.pendingSwitch.or (some i) = some j := hj
  cases present : s.policy.pendingSwitch with
  | none =>
    rw [present] at asked
    cases asked
    exact other
  | some k =>
    rw [present] at asked
    cases asked
    exact (ok.pendingSwitch j present).2

/-- Every change of the policy store, the session and the run leaves the session controller consistent. -/
theorem sessionOk_closed : SessionClosed (fun s t => SessionOk s → SessionOk t) (fun s t => SessionOk s → SessionOk t) where
  quiet h ok := sessionOk_of_quiet ok h
  trans h k ok := k (h ok)
  of := id
  before h k ok := k (h ok)
  after h k ok := k (h ok)
  panelTake _ := panelTake_sessionOk
  closeBlank s colour active ok := by
    obtain ⟨r, record, fields⟩ := sessionOk_record ok (by rw [active]; nofun)
    exact closeBlank_sessionOk colour record fields (sessionOk_pendingOther ok)
  storeClose _ k opening ok := storeClose_sessionOk k ok opening
  closePlain s _ _ := closePlain_sessionOk s
  openSession _ _ _ upright ok := openSession_sessionOk (sessionOk_pendingOther ok) upright
  runCompleted _ _ running ok := runCompleted_sessionOk ok running
  setArea _ i v _ := setArea_sessionOk i v
  withdrawSwitch _ ok := sessionOk_of_pending ok rfl rfl nofun
  deferSwitch _ _ busy other ok := deferSwitch_sessionOk ok busy other
  takeSwitch s i _ ok := by
    obtain ⟨session, -, run, -⟩ := takeSwitch_rest i s
    exact sessionOk_of_pending ok session run (by rw [takeSwitch_policy]; nofun)
  clearAll s _ ok :=
    sessionOk_of_pending ok (clearAll_traffic s).session (clearAll_traffic s).run (by rw [clearAll_policy]; nofun)

theorem sessionOk_reset : SessionOk State.reset := sessionOk_idle rfl rfl

/-- Settles O5: each change of the session is checked on the state that it leaves (`sessionOk_closed`), and the reset is in IDLE. -/
theorem stepKeepsSession : Obligations.StepKeepsSession := by
  unfold Obligations.StepKeepsSession
  intro s t ok step
  rcases sessionOk_closed.of_step step with reset | kept
  · exact sessionOk_of_quiet sessionOk_reset reset
  · exact kept ok

end Sys2Proof.Proofs
end

section
/-! The active area stands while a session is open (R87, R93, R99, R100). -/

namespace Sys2Proof.Proofs

open Sys2Proof Sys2Proof.Machine Sys2Proof.Safety

/-- The selector and the contents of the active area are as they were. -/
def ActiveStands (s t : State) : Prop := t.policy.active = s.policy.active ∧ activeArea t = activeArea s

theorem activeStands_of_policy {s t : State} (h : t.policy = s.policy) : ActiveStands s t :=
  ⟨by rw [h], by simp only [activeArea, areaOfId, h]⟩

theorem ActiveStands.trans {s t u : State} (h : ActiveStands s t) (k : ActiveStands t u) : ActiveStands s u :=
  ⟨k.1.trans h.1, k.2.trans h.2⟩

/-- A write to the inactive area leaves the active one (R87). -/
theorem setArea_activeStands {s : State} {i : AreaId} (v : Area) (other : i ≠ s.policy.active) :
    ActiveStands s (setArea i v s) := by
  cases i <;> cases active : s.policy.active
  · exact absurd active.symm other
  · exact ⟨rfl, by simp [activeArea, areaOfId, setArea, State.setPolicy, active]⟩
  · exact ⟨rfl, by simp [activeArea, areaOfId, setArea, State.setPolicy, active]⟩
  · exact absurd active.symm other

/-- The active area stands, and no session opens. -/
def StandsClosed (s t : State) : Prop := ActiveStands s t ∧ (s.session.state = .idle → t.session.state = .idle)

/-- The active area stands, or the session is left IDLE. -/
def StandsOrIdle (s t : State) : Prop := ActiveStands s t ∨ t.session.state = .idle

theorem returnToIdle_idle (s : State) : (returnToIdle s).session.state = .idle := by rw [returnToIdle_session]

theorem closePlain_idle (s : State) : (enterClosing .plain s).session.state = .idle := by
  obtain ⟨u, eq, -⟩ := closePlain_eq s
  rw [eq, returnToIdle_idle]

/-- The end of OPENING takes a switch only on its way to IDLE (R99). -/
theorem endOpening_standsOrIdle (s : State) : StandsOrIdle s (endOpening s) := by
  unfold endOpening
  split
  · next k _ =>
    cases k with
    | blank colour => exact .inl (activeStands_of_policy (closeBlank_policy colour s))
    | plain => exact .inr (closePlain_idle s)
  · exact .inl (activeStands_of_policy (enterActive_policy s))

theorem runCompleted_standsOrIdle (q : Run) (s : State) : StandsOrIdle s (runCompleted q s) := by
  have ends : ∀ (x : Screen) t, t.policy = s.policy →
      StandsOrIdle s (if x = .ad ∧ t.session.state = .opening then endOpening t else t) := by
    intro x t policy
    split
    · exact (endOpening_standsOrIdle t).imp_left (activeStands_of_policy policy).trans
    · exact .inl (activeStands_of_policy policy)
  unfold runCompleted
  dsimp only
  split
  · next x _ =>
    cases q.last with
    | none => exact ends x _ rfl
    | some n => exact ends x _ rfl
  · split
    · exact .inr (returnToIdle_idle _)
    · exact .inl (activeStands_of_policy rfl)

theorem openSession_policy (a : OpenArgs) (s : State) : (openSession a s).policy = s.policy := by
  obtain ⟨u, policy, -, ⟨eq, -⟩ | eq⟩ := openSession_cases a s
  · rw [eq, policy]
  · rw [eq, enterActive_policy, policy]

/-- The active area changes only with a switch or FULL_CLEAR, both in IDLE, and nothing that follows in the same event opens a
session. -/
theorem standsOrIdle_closed : SessionClosed StandsClosed StandsOrIdle where
  quiet h := ⟨activeStands_of_policy h.policy, fun idle => by rw [h.session, idle]⟩
  trans h k := ⟨h.1.trans k.1, fun idle => k.2 (h.2 idle)⟩
  of h := .inl h.1
  before h k := k.imp_left h.1.trans
  after h k := h.imp (·.trans k.1) k.2
  panelTake s :=
    ⟨activeStands_of_policy (panelTake_taken s).policy, fun idle => by rw [(panelTake_taken s).state, idle]⟩
  closeBlank s colour active :=
    ⟨activeStands_of_policy (closeBlank_policy colour s), fun idle => by rw [active] at idle; cases idle⟩
  storeClose _ _ _ := ⟨activeStands_of_policy rfl, id⟩
  closePlain s _ := .inr (closePlain_idle s)
  openSession s a _ _ := .inl (activeStands_of_policy (openSession_policy _ s))
  runCompleted s q _ := runCompleted_standsOrIdle q s
  setArea _ _ v other := .inl (setArea_activeStands v other)
  withdrawSwitch _ := .inl ⟨rfl, rfl⟩
  deferSwitch _ _ _ _ := .inl ⟨rfl, rfl⟩
  takeSwitch s i idle := by
    obtain ⟨session, -⟩ := takeSwitch_rest i s
    exact .inr (by rw [session, idle])
  clearAll s idle := .inr (by rw [(clearAll_traffic s).session]; exact idle)

/-- Settles O17: a step that changes the active area leaves the session IDLE (`standsOrIdle_closed`), as the reset does. -/
theorem activeAreaStandsInSession : Obligations.ActiveAreaStandsInSession := by
  unfold Obligations.ActiveAreaStandsInSession
  intro s t step busy
  rcases standsOrIdle_closed.of_step step with reset | stands | idle
  · exact absurd (by rw [reset.session]; rfl) busy
  · exact stands
  · exact absurd idle busy

end Sys2Proof.Proofs
end

section
/-! The policy requests of PD: WRITE_CHANNEL, REMOVE_CHANNEL, WRITE_SETTINGS and COPY_AREA on the inactive area (R2, R87 to R91, R174),
and ACTIVATE (R93, R94). -/

namespace Sys2Proof.Proofs

open Sys2Proof Sys2Proof.Machine Sys2Proof.Safety

/-! ## A request of PD -/

theorem kept_policy (p : Port) (n : Nat) (s : State) : (kept p n s).policy = s.policy := handed_policy p s

theorem kept_session (p : Port) (n : Nat) (s : State) : (kept p n s).session = s.session := handed_session p s

theorem areaOfId_kept (p : Port) (n : Nat) (s : State) (i : AreaId) : areaOfId (kept p n s) i = areaOfId s i :=
  handed_areaOfId p s i

theorem activeArea_kept (p : Port) (n : Nat) (s : State) : activeArea (kept p n s) = activeArea s := handed_activeArea p s

/-- A request of PD with the right number of argument bytes passes the checks of R173 and is answered as it acts. -/
theorem controlFrame_pd {c : Ctl} {act : List Byte → State → Answered} {b : Byte} {s : State} {n : Nat} {code tag : Byte}
    {args : List Byte} (asks : Asks s .pd b n code tag args) (request : ctlOf code = some c) (length : args.length = c.argBytes)
    {status : CtlStatus} {result : List Byte} {u : State} (acts : act args (kept .pd n s) = ⟨status, result, u⟩) :
    controlFrame c .pd b act s = answered .pd (.controlReply code tag status result) u := by
  have passes : checked c .pd args (act args) (kept .pd n s) = ⟨status, result, u⟩ := by
    rw [checked, if_neg (fun other => other.2 rfl), if_neg (not_not.mpr length), acts]
  rw [controlFrame_arrives c act asks request, passes]
  rfl

/-! ## ACTIVATE -/

theorem actActivate_unknown {a : Byte} (s : State) (h : areaOf a = none) : actActivate [a] s = refuse .badarg s := by
  have named : areaOf (byteAt [a] 0) = none := h
  rw [actActivate, named]

theorem actActivate_active {a : Byte} {s : State} (h : areaOf a = some s.policy.active) :
    actActivate [a] s = ⟨.done, [0#8], s.setPolicy { s.policy with pendingSwitch := none }⟩ := by
  have named : areaOf (byteAt [a] 0) = some s.policy.active := h
  simp only [actActivate, named, if_true]

theorem actActivate_idle {a : Byte} {i : AreaId} {s : State} (h : areaOf a = some i) (other : i ≠ s.policy.active)
    (idle : s.session.state = .idle) : actActivate [a] s = ⟨.done, [1#8], takeSwitch i s⟩ := by
  have named : areaOf (byteAt [a] 0) = some i := h
  simp only [actActivate, named, if_neg other, if_pos idle]

theorem actActivate_busy {a : Byte} {i : AreaId} {s : State} (h : areaOf a = some i) (other : i ≠ s.policy.active)
    (busy : s.session.state ≠ .idle) : actActivate [a] s = ⟨.done, [2#8], deferSwitch i s⟩ := by
  have named : areaOf (byteAt [a] 0) = some i := h
  simp only [actActivate, named, if_neg other, if_neg busy]

theorem deferSwitch_of_none {i : AreaId} {s : State} (h : s.policy.pendingSwitch = none) :
    deferSwitch i s = s.setPolicy { s.policy with pendingSwitch := some i } := by
  rw [deferSwitch, h]
  rfl

/-- A pending switch already present stays as it was (R93). -/
theorem deferSwitch_of_some {i : AreaId} {s : State} (h : s.policy.pendingSwitch ≠ none) : deferSwitch i s = s := by
  obtain ⟨j, hj⟩ := Option.ne_none_iff_exists'.mp h
  rw [deferSwitch, hj, Option.some_or, ← hj]
  rfl

/-- Settles O47: the cases of the area named, of the session state and of the pending switch. -/
theorem activateHandled : Obligations.ActivateHandled := by
  unfold Obligations.ActivateHandled
  intro b s n code tag a asks code_eq
  subst code_eq
  have policy := kept_policy .pd n s
  have session := kept_session .pd n s
  have answers : ∀ {status result u}, actActivate [a] (kept .pd n s) = ⟨status, result, u⟩ →
      exec (.activate .pd b) s = .next (answered .pd (.controlReply 0x24#8 tag status result) u) := by
    intro status result u acts
    have eq : exec (.activate .pd b) s = .next (controlFrame .activate .pd b actActivate s) := rfl
    rw [eq, controlFrame_pd asks rfl rfl acts]
  refine ⟨fun unknown => answers (actActivate_unknown _ unknown), fun i area =>
    ⟨fun same => ?_, fun other idle => ?_, fun other busy none => ?_, fun other busy some => ?_⟩⟩
  · rw [answers (actActivate_active (by rw [area, policy, same])), policy]
    rfl
  · exact answers (actActivate_idle area (by rwa [policy]) (by rwa [session]))
  · rw [answers (actActivate_busy area (by rwa [policy]) (by rwa [session])), deferSwitch_of_none (by rwa [policy]), policy]
    rfl
  · rw [answers (actActivate_busy area (by rwa [policy]) (by rwa [session])), deferSwitch_of_some (by rwa [policy])]

/-! ## The arguments of a WRITE_CHANNEL -/

theorem natAt_eq (a : List Byte) (i : Nat) : natAt a i = (byteAt a i).toNat + 256 * (byteAt a (i + 1)).toNat := by
  unfold natAt halfAt
  rw [BitVec.toNat_append, ← Nat.shiftLeft_add_eq_or_of_lt (byteAt a i).isLt, Nat.shiftLeft_eq]
  omega

theorem portOf_iff (b : Byte) (p : Port) : portOf b = some p ↔ b.toNat = match p with | .ad => 1 | .pd => 2 | .rd => 3 := by
  unfold portOf
  cases p <;> split <;> simp_all

theorem classOf_iff (b : Byte) (k : EgressClass) :
    classOf b = some k ↔ b.toNat = match k with | .payment => 0 | .radio => 1 | .app => 2 := by
  unfold classOf
  cases k <;> split <;> simp_all

theorem typesOf_iff (b : Byte) (t : MsgTypes) :
    typesOf b = some t ↔ b.toNat = match t with | .requests => 0 | .posts => 1 | .both => 2 := by
  unfold typesOf
  cases t <;> split <;> simp_all

/-- What a WRITE_CHANNEL says of a record, field by field (R2, R174). -/
theorem readRecord_eq_some (a : List Byte) (r : ChannelRecord) : readRecord a = some r ↔
    r.owner ≠ r.peer ∧ portOf (byteAt a 2) = some r.owner ∧ portOf (byteAt a 3) = some r.peer ∧
      classOf (byteAt a 4) = some r.cls ∧ typesOf (byteAt a 5) = some r.types ∧ r.kinds = halfAt a 6 ∧
      r.maxSize = natAt a 8 ∧ r.creditBase = natAt a 10 ∧ r.refillPeriod = (byteAt a 12).toNat ∧
      r.gap = (byteAt a 13).toNat ∧ r.maxOutstanding = (byteAt a 14).toNat ∧ r.responseLimit = natAt a 15 ∧
      r.extendStep = natAt a 17 ∧ r.maxExtends = (byteAt a 19).toNat ∧ r.retries = (byteAt a 20).toNat ∧
      r.autoHold = (byteAt a 21).getLsbD 0 ∧ r.barOnTimeout = (byteAt a 21).getLsbD 1 ∧
      r.quietInSession = (byteAt a 21).getLsbD 2 := by
  constructor
  · intro h
    unfold readRecord at h
    split at h
    · next o p k t owner peer cls types =>
      split at h
      · cases h
      · next differ =>
        cases h
        exact ⟨differ, owner, peer, cls, types, rfl, rfl, rfl, rfl, rfl, rfl, rfl, rfl, rfl, rfl, rfl, rfl, rfl⟩
    · cases h
  · obtain ⟨o, p, k, t, kinds, maxSize, creditBase, refillPeriod, gap, maxOutstanding, responseLimit, extendStep, maxExtends,
      retries, autoHold, barOnTimeout, quietInSession⟩ := r
    dsimp only
    rintro ⟨differ, owner, peer, cls, types, rfl, rfl, rfl, rfl, rfl, rfl, rfl, rfl, rfl, rfl, rfl, rfl, rfl⟩
    simp only [readRecord, owner, peer, cls, types, if_neg differ]

/-! ## The policy writes -/

theorem inactiveArea_unknown {code : Byte} {s : State} (h : areaOf code = none) : inactiveArea code s = .error .badarg := by
  rw [inactiveArea, h]

theorem inactiveArea_active {code : Byte} {s : State} (h : areaOf code = some s.policy.active) :
    inactiveArea code s = .error .inuse := by
  simp only [inactiveArea, h, if_true]

theorem inactiveArea_inactive {code : Byte} {i : AreaId} {s : State} (h : areaOf code = some i) (other : i ≠ s.policy.active) :
    inactiveArea code s = .ok i := by
  simp only [inactiveArea, h, if_neg other]

/-- The four policy writes (R87). -/
def policyWrite : Ctl → Option (List Byte → State → Answered)
  | .writeChannel => some actWriteChannel
  | .removeChannel => some actRemoveChannel
  | .writeSettings => some actWriteSettings
  | .copyArea => some actCopyArea
  | _ => none

/-- A policy write whose area fails the checks is refused (R87). -/
theorem policyWrite_refused {c : Ctl} {act : List Byte → State → Answered} (write : policyWrite c = some act) {a : List Byte}
    {s : State} {status : CtlStatus} (h : inactiveArea (byteAt a 0) s = .error status) : act a s = refuse status s := by
  cases c <;> cases write
  · rw [actWriteChannel, h]
  · rw [actRemoveChannel, h]
  · rw [actWriteSettings, h]
  · rw [actCopyArea, h]

theorem exec_policyWrite {c : Ctl} {act : List Byte → State → Answered} (write : policyWrite c = some act) (p : Port) (b : Byte)
    (s : State) : exec (ctlCommand c p b) s = .next (controlFrame c p b act s) := by
  cases c <;> cases write <;> rfl

/-- Area `i` holds `v` after a write to it, and the selector, the pending switch and the active area are as they were (R87). -/
theorem setArea_writes {i : AreaId} {n : Nat} {s : State} (v : Area) (other : i ≠ s.policy.active) :
    let w := kept .pd n s
    let u := setArea i v w
    areaOfId u i = v ∧ activeArea u = activeArea s ∧ u.policy.active = s.policy.active ∧
      u.policy.pendingSwitch = s.policy.pendingSwitch ∧ u = { w with policy := u.policy } := by
  intro w u
  have policy : w.policy = s.policy := kept_policy .pd n s
  obtain ⟨active, area⟩ := setArea_activeStands (s := w) v (by rwa [policy])
  refine ⟨?_, area.trans (activeArea_kept .pd n s), active.trans (congrArg Policy.active policy), ?_, ?_⟩
  · cases i <;> rfl
  · rw [← policy]; cases i <;> rfl
  · cases i <;> rfl

theorem chnOf_eq_none {n : Nat} (h : ∀ c : Chn, n ≠ c.val + 1) : chnOf n = none := by
  unfold chnOf
  exact dif_neg fun range => h ⟨n - 1, by omega⟩ (by dsimp only; omega)

theorem modeCode_of_modeOf {b : Byte} {m : EgressMode} (h : modeOf b = some m) : modeCode m = b := by
  unfold modeOf at h
  split at h
  · next code => cases h; exact (BitVec.eq_of_toNat_eq code).symm
  · next code => cases h; exact (BitVec.eq_of_toNat_eq code).symm
  · cases h

section
variable {i : AreaId} {a : List Byte} {s : State} (area : inactiveArea (byteAt a 0) s = .ok i)
include area

theorem actWriteChannel_badarg (h : (∀ c : Chn, (byteAt a 1).toNat ≠ c.val + 1) ∨ readRecord a = none) :
    actWriteChannel a s = refuse .badarg s := by
  rcases h with number | record
  · simp only [actWriteChannel, area, chnOf_eq_none number]
  · simp only [actWriteChannel, area, record]
    cases chnOf (byteAt a 1).toNat <;> rfl

theorem actWriteChannel_done {c : Chn} {r : ChannelRecord} (number : (byteAt a 1).toNat = c.val + 1)
    (record : readRecord a = some r) : actWriteChannel a s = ⟨.done, [], setPosition i c (some r.clamp) s⟩ := by
  simp only [actWriteChannel, area, number, chnOf_number, record]

theorem actRemoveChannel_badarg (h : ∀ c : Chn, (byteAt a 1).toNat ≠ c.val + 1) :
    actRemoveChannel a s = refuse .badarg s := by
  simp only [actRemoveChannel, area, chnOf_eq_none h]

theorem actRemoveChannel_done {c : Chn} (number : (byteAt a 1).toNat = c.val + 1) :
    actRemoveChannel a s = ⟨.done, [], setPosition i c none s⟩ := by
  simp only [actRemoveChannel, area, number, chnOf_number]

theorem actWriteSettings_badarg
    (h : modeOf (byteAt a 1) = none ∨ modeOf (byteAt a 3) = none ∨ modeOf (byteAt a 5) = none) :
    actWriteSettings a s = refuse .badarg s := by
  have none : readSettings a = none := by
    unfold readSettings
    split
    · next ad pd rd => simp [ad, pd, rd] at h
    · rfl
  simp only [actWriteSettings, area, none]

theorem actCopyArea_done : actCopyArea a s = ⟨.done, [], setArea i (activeArea s) s⟩ := by
  simp only [actCopyArea, area]

end

/-- The settings are answered as they are stored (R90). -/
theorem actWriteSettings_done {i : AreaId} {a : List Byte} {s : State} (area : inactiveArea (byteAt a 0) s = .ok i)
    {ma mp mr : EgressMode} (ad : modeOf (byteAt a 1) = some ma) (pd : modeOf (byteAt a 3) = some mp)
    (rd : modeOf (byteAt a 5) = some mr) :
    let la := max 1 (byteAt a 2).toNat
    let lp := max 1 (byteAt a 4).toNat
    let lr := max 1 (byteAt a 6).toNat
    let rows := min 32 (byteAt a 7).toNat
    actWriteSettings a s =
      ⟨.done, [byteAt a 1, countByte la, byteAt a 3, countByte lp, byteAt a 5, countByte lr, countByte rows],
        setArea i { areaOfId s i with settings := ⟨⟨ma, la⟩, ⟨mp, lp⟩, ⟨mr, lr⟩⟩, bannerRows := rows } s⟩ := by
  intro la lp lr rows
  have settings : readSettings a = some (⟨⟨ma, la⟩, ⟨mp, lp⟩, ⟨mr, lr⟩⟩, rows) := by
    simp only [readSettings, ad, pd, rd, la, lp, lr, rows]
  simp only [actWriteSettings, area, settings, settingsBytes, modeCode_of_modeOf ad,
    modeCode_of_modeOf pd, modeCode_of_modeOf rd]

/-- Settles O46: the arguments are read field by field, and each write is taken through the checks on its area, its number and its
values to the state that it leaves. -/
theorem policyWrites : Obligations.PolicyWrites := by
  unfold Obligations.PolicyWrites
  refine ⟨fun args r => ?_, fun b s n code tag args asks => ?_⟩
  · rw [readRecord_eq_some, portOf_iff, portOf_iff, classOf_iff, typesOf_iff, ← BitVec.toNat_inj]
    simp only [show (halfAt args 6).toNat = natAt args 6 from rfl, natAt_eq, ← BitVec.testBit_toNat] <;> rfl
  intro w reply all
  have policy : w.policy = s.policy := kept_policy .pd n s
  have answers : ∀ {c act status result u}, policyWrite c = some act → ctlOf code = some c → args.length = c.argBytes →
      act args w = ⟨status, result, u⟩ → exec (ctlCommand c .pd b) s = reply status result u := by
    intro c act status result u write request length acts
    rw [exec_policyWrite write, controlFrame_pd asks request length acts]
  have refused : ∀ {status}, inactiveArea (byteAt args 0) w = .error status → all (reply status [] w) := by
    intro status refusal
    have refuses : ∀ {c act}, policyWrite c = some act → ctlOf code = some c → args.length = c.argBytes →
        exec (ctlCommand c .pd b) s = reply status [] w := fun write request length =>
      answers write request length (policyWrite_refused write refusal)
    exact ⟨fun code => refuses (c := .writeChannel) rfl (by rw [code]; rfl),
      fun code => refuses (c := .removeChannel) rfl (by rw [code]; rfl),
      fun code => refuses (c := .writeSettings) rfl (by rw [code]; rfl),
      fun code => refuses (c := .copyArea) rfl (by rw [code]; rfl)⟩
  refine ⟨fun unknown => refused (inactiveArea_unknown unknown), fun active => refused (inactiveArea_active (by rwa [policy])),
    fun i named other => ?_⟩
  intro old writes
  have area : inactiveArea (byteAt args 0) w = .ok i := inactiveArea_inactive named (by rwa [policy])
  have kept : areaOfId w i = old := areaOfId_kept .pd n s i
  have written : ∀ {x result v}, x = reply .done result (setArea i v w) → writes x result v := fun eq =>
    ⟨_, eq, setArea_writes _ other⟩
  refine ⟨fun code length => ⟨fun bad => ?_, fun c r number record => ⟨((readRecord_eq_some args r).mp record).1, ?_⟩⟩,
    fun code length => ⟨fun bad => ?_, fun c number => ?_⟩,
    fun code length => ⟨fun bad => ?_, fun ma mp mr ad pd rd => ?_⟩, fun code length => ?_⟩ <;> subst code
  · exact answers (c := .writeChannel) rfl rfl length (actWriteChannel_badarg area bad)
  · rw [← kept]
    exact written (answers (c := .writeChannel) rfl rfl length (actWriteChannel_done area number record))
  · exact answers (c := .removeChannel) rfl rfl length (actRemoveChannel_badarg area bad)
  · rw [← kept]
    exact written (answers (c := .removeChannel) rfl rfl length (actRemoveChannel_done area number))
  · exact answers (c := .writeSettings) rfl rfl length (actWriteSettings_badarg area bad)
  · rw [← kept]
    exact written (answers (c := .writeSettings) rfl rfl length (actWriteSettings_done area ad pd rd))
  · rw [← activeArea_kept .pd n s]
    exact written (answers (c := .copyArea) rfl rfl length (actCopyArea_done area))

end Sys2Proof.Proofs
end

section
/-! OPEN_SESSION and the session limit: latching SESSION_CHANGE and writing the session do not disturb each other, so each change of the
session is one write with one latch (R106, R107, R109, R111, R114, R122). -/

namespace Sys2Proof.Proofs

open Sys2Proof Sys2Proof.Machine Sys2Proof.Safety

/-! ## Latching and the session -/

theorem setSession_setSession (s : State) (v w : Session) : (s.setSession v).setSession w = s.setSession w := rfl

/-- Latching reads and writes no session. -/
theorem latch_setSession (p : Port) (k : Condition) (v : Session) (s : State) :
    latch p k (s.setSession v) = (latch p k s).setSession v := by
  rw [latch_eq, latch_eq]
  rfl

theorem latchAll_setSession (k : Condition) (v : Session) (s : State) :
    latchAll k (s.setSession v) = (latchAll k s).setSession v := by
  simp only [latchAll, latch_setSession]

/-- A condition latched for all is pending at every port (R181). -/
theorem hasCondition_latchAll (p : Port) (k : Condition) (s : State) :
    hasCondition ((latchAll k s).notice p).set k = true := by
  rw [(latchAll_only k s).notice, noticeAfter_set, hasCondition_iff, BitVec.or_comm]
  exact BitVec.eq_of_getLsbD_eq fun i _ => by simpa using Or.inl

/-- A condition that is pending at every port is latched already (R181). -/
theorem latchAll_latchAll (k : Condition) (s : State) : latchAll k (latchAll k s) = latchAll k s := by
  have pending (p : Port) : latch p k (latchAll k s) = latchAll k s := latch_pending (hasCondition_latchAll p k s)
  rw [latchAll, pending, pending, pending]

/-- The start of an ACTIVE session is one write of the session and one latch (R109). -/
theorem enterActive_eq {s : State} {r : SessRecord} (h : s.session.record = some r) :
    enterActive s =
      latchAll .sessionChange (s.setSession
        { state := .active, record := some (startedRecord s.time r), secureInd := true,
          limitAt := some (after s.time (1000 * r.limit)) }) := by
  simp [enterActive, editRecord, h, startedRecord, State.setSession]

/-- So is a close with blank (R114). -/
theorem closeBlank_eq {s : State} {r : SessRecord} (colour : Half) (h : s.session.record = some r) :
    enterClosing (.blank colour) s =
      latchAll .sessionChange (s.setSession
        { state := .closing, record := some (closingRecord colour r), secureInd := false, limitAt := none }) := by
  simp only [enterClosing, editRecord, h, Option.map_some, latchAll_setSession, State.setSession_session,
    setSession_setSession]
  rfl

/-! ## OPEN_SESSION -/

theorem adRunInProgress_iff (s : State) : adRunInProgress s = true ↔ AdRun s := by
  refine ⟨adRun_of_adRunInProgress, fun ⟨r, run, source⟩ => ?_⟩
  simp [adRunInProgress, run, source]

/-- While an AD run is in progress the session waits in OPENING (R107). -/
theorem openSession_waits (a : OpenArgs) {s : State} (running : AdRun s) :
    openSession a s =
      latchAll .sessionChange (s.setSession
        { state := .opening, record := some (openedRecord a), secureInd := false, limitAt := none }) := by
  unfold openSession
  refine if_pos ((adRunInProgress_iff _).mpr ?_)
  rw [adRun_iff, (latchAll_traffic _ _).run]
  exact (adRun_iff s).mp running

/-- Otherwise it is ACTIVE in the same event, and SESSION_CHANGE latched for OPENING stands latched for ACTIVE (R107, R109). -/
theorem openSession_starts (a : OpenArgs) {s : State} (free : ¬ AdRun s) :
    openSession a s =
      latchAll .sessionChange (s.setSession
        { state := .active, record := some (startedRecord s.time (openedRecord a)), secureInd := true,
          limitAt := some (after s.time (1000 * a.limit)) }) := by
  have unwaited : ¬ adRunInProgress (latchAll .sessionChange (s.setSession
      { state := .opening, record := some (openedRecord a), secureInd := false, limitAt := none })) = true := by
    rw [adRunInProgress_iff, adRun_iff, (latchAll_traffic _ _).run]
    exact mt (adRun_iff s).mpr free
  rw [openSession]
  refine (if_neg unwaited).trans ?_
  rw [enterActive_eq (r := openedRecord a) (by rw [latchAll_session]; rfl)]
  simp only [latchAll_setSession, latchAll_latchAll, setSession_setSession, State.setSession_time, (latchAll_traffic _ s).time]
  rfl

theorem actOpenSession_busy (a : List Byte) {s : State} (busy : s.session.state ≠ .idle) :
    actOpenSession a s = refuse .busy s := if_pos busy

section
variable {a : List Byte} {s : State} (idle : s.session.state = .idle)
include idle

theorem actOpenSession_inverted (inverted : (readOpen a).rect.inverted = true) : actOpenSession a s = refuse .badarg s :=
  (if_neg (not_not.mpr idle)).trans (if_pos inverted)

theorem actOpenSession_done (upright : (readOpen a).rect.inverted = false) :
    actOpenSession a s =
      { status := .done
        result := rectBytes (readOpen a).rect ++ leNat (readOpen a).limit ++
          [if (openSession (readOpen a) s).session.state = .active then 1#8 else 0#8]
        state := openSession (readOpen a) s } :=
  (if_neg (not_not.mpr idle)).trans (if_neg (Bool.eq_false_iff.mp upright))

end

/-- The record stored is the one that the arguments ask for (R106). -/
theorem openedRecord_readOpen (args : List Byte) : openedRecord (readOpen args) = openRecord args := rfl

theorem inverted_iff (r : Rect) : r.inverted = true ↔ r.x1 < r.x0 ∨ r.y1 < r.y0 := by
  simp [Rect.inverted]

/-- Settles O50: the refusals, and the two ways in which the record is stored, by the AD run in progress. -/
theorem openSessionHandled : Obligations.OpenSessionHandled := by
  unfold Obligations.OpenSessionHandled
  intro b s n code tag args asks code_eq length
  subst code_eq
  intro w r reply stored
  have session : w.session = s.session := kept_session .pd n s
  have time : w.time = s.time := handed_time .pd s
  have run : AdRun w ↔ AdRun s := by rw [adRun_iff, adRun_iff, show w.run = s.run from handed_run .pd s]
  have answers : ∀ {status result u}, actOpenSession args w = ⟨status, result, u⟩ →
      exec (.openSession .pd b) s = reply status result u := by
    intro status result u acts
    have eq : exec (.openSession .pd b) s = .next (controlFrame .openSession .pd b actOpenSession s) := rfl
    rw [eq, controlFrame_pd asks rfl length acts]
  clear_value w reply
  rw [← session]
  refine ⟨fun busy => answers (actOpenSession_busy args busy), fun idle inverted =>
    answers (actOpenSession_inverted idle ((inverted_iff _).mpr inverted)), fun idle columns rows => ?_⟩
  have upright : (readOpen args).rect.inverted = false := by
    rw [Bool.eq_false_iff, ne_eq, inverted_iff, not_or]
    exact ⟨Nat.not_lt.mpr columns, Nat.not_lt.mpr rows⟩
  have done := actOpenSession_done idle upright
  refine ⟨fun running => answers ?_, fun free => answers ?_⟩
  · rw [done, openSession_waits _ (run.mpr running), latchAll_session, openedRecord_readOpen]
    rfl
  · rw [done, openSession_starts _ (mt run.mp free), latchAll_session, openedRecord_readOpen, ← time]
    rfl

/-! ## The session limit -/

/-- Settles O56: the limit closes with blank and 0x0000, and latches SESSION_EXPIRED after SESSION_CHANGE. -/
theorem sessionLimitExpires : Obligations.SessionLimitExpires := by
  unfold Obligations.SessionLimitExpires
  intro s r active reached record
  have expires : exec .sessionLimitExpiry s = .next (limitEvent s) := rfl
  rw [expires, limitEvent, if_pos ⟨active, reached⟩, limitReached, closeBlank_eq 0#16 record]
  rfl

end Sys2Proof.Proofs
end

section
/-! The panel: every operation leaves the session, the draw states and the run in progress alone but the few named in `PanelClosed`, so
a property of these three is proved operation by operation and holds of every command. `SessionClosed` does not do for it: of a run
it keeps the source alone, and not where its pixels lie. -/

namespace Sys2Proof.Proofs

open Sys2Proof Sys2Proof.Machine Sys2Proof.Safety

/-- From `s` to `t` the session, the draw states and the run in progress stand. -/
structure PanelStands (s t : State) : Prop where
  session : t.session = s.session
  draws : t.draws = s.draws
  run : t.run = s.run

theorem panelStands_of_traffic {s t : State} (h : Traffic s t) : PanelStands s t := ⟨h.session, h.draws, h.run⟩

theorem panelStands_of_granted {s t : State} (h : Granted s t) : PanelStands s t := ⟨h.session, h.draws, h.run⟩

/-- A window to be queued has been read from a body, and is not inverted (R124, R125). -/
def FrameRead (f : DrawFrame) : Prop :=
  ∀ w n, f = .window w n → w.rect.inverted = false ∧ ∃ body, readWindow body = some w

/-- `R` holds of every change that an operation makes to the session, the draw states and the run, and of what leaves all three alone. -/
structure PanelClosed (R : State → State → Prop) : Prop where
  stands : ∀ {s t}, PanelStands s t → R s t
  trans : ∀ {s t u}, R s t → R t u → R s u
  queueDraw : ∀ s x f, (s.draw x).queue.length < drawCapacity → FrameRead f →
    R s (s.setDraw x { s.draw x with queue := (s.draw x).queue ++ [f] })
  tearDraw : ∀ x s, R s (tearDraw x s)
  panelTake : ∀ s, R s (panelTake s)
  closeBlank : ∀ s colour, s.session.state = .active → R s (enterClosing (.blank colour) s)
  closePlain : ∀ s, s.session.state = .active → R s (enterClosing .plain s)
  storeClose : ∀ s k, s.session.state = .opening → R s (storeClose k s)
  openSession : ∀ s a, s.session.state = .idle → (readOpen a).rect.inverted = false → R s (openSession (readOpen a) s)
  runCompleted : ∀ s r, s.run = some r → R s (runCompleted r s)

namespace PanelClosed

variable {R : State → State → Prop}

theorem refl (H : PanelClosed R) (s : State) : R s s := H.stands ⟨rfl, rfl, rfl⟩

theorem traffic (H : PanelClosed R) {s t : State} (h : Traffic s t) : R s t := H.stands (panelStands_of_traffic h)

theorem setTouch (H : PanelClosed R) (s : State) (v : Touch) : R s (s.setTouch v) := H.stands ⟨rfl, rfl, rfl⟩

theorem setTouchQueue (H : PanelClosed R) (s : State) (x : Screen) (q : List TouchEvent) : R s (s.setTouchQueue x q) :=
  H.stands ⟨rfl, rfl, rfl⟩

theorem setPolicy (H : PanelClosed R) (s : State) (v : Policy) : R s (s.setPolicy v) := H.stands ⟨rfl, rfl, rfl⟩

theorem of_ite (H : PanelClosed R) {c : Prop} [Decidable c] {s t : State} (h : c → R s t) : R s (if c then t else s) := by
  split
  · next hc => exact h hc
  · exact H.refl s

theorem foldl (H : PanelClosed R) {α : Type} {f : State → α → State} (h : ∀ s a, R s (f s a)) (l : List α) (s : State) :
    R s (l.foldl f s) := by
  induction l generalizing s with
  | nil => exact H.refl s
  | cons a l ih => exact H.trans (h s a) (ih _)

/-! ### Draw frames -/

theorem of_joinDraw (H : PanelClosed R) (p : Port) (x : Screen) (n : Nat) (ty : FrameType) {f : DrawFrame} (read : FrameRead f)
    (s : State) : R s (joinDraw p x n ty f s) := by
  unfold joinDraw
  split
  · exact H.traffic (verdict_traffic _ _ _ _ _ _)
  · next room => exact H.queueDraw s x f (Nat.not_le.mp room) read

theorem of_takeDrawWindow (H : PanelClosed R) (p : Port) (n : Nat) (body : List Byte) (s : State) :
    R s (takeDrawWindow p n body s) := by
  unfold takeDrawWindow
  split
  · exact H.traffic (verdict_traffic _ _ _ _ _ _)
  · split
    · exact H.traffic (verdict_traffic _ _ _ _ _ _)
    · next w read =>
      split
      · exact H.traffic (verdict_traffic _ _ _ _ _ _)
      · next upright =>
        refine H.of_joinDraw _ _ _ _ (fun v m same => ?_) _
        cases same
        exact ⟨Bool.eq_false_iff.mpr upright, body, read⟩

theorem of_takeDrawPixels (H : PanelClosed R) (p : Port) (n : Nat) (body : List Byte) (s : State) :
    R s (takeDrawPixels p n body s) := by
  unfold takeDrawPixels
  split
  · exact H.traffic (verdict_traffic _ _ _ _ _ _)
  · split
    · exact H.traffic (verdict_traffic _ _ _ _ _ _)
    · next px _ => exact H.of_joinDraw p _ n .drawPixels (f := .pixels px n) nofun s

/-! ### Touch events -/

theorem of_deliver (H : PanelClosed R) (o : Option Screen) (ev : TouchEvent) (s : State) : R s (deliver o ev s).1 := by
  cases o with
  | none => exact H.refl s
  | some x =>
    simp only [deliver, joinTouch]
    split
    · exact H.setTouchQueue _ _ _
    · split
      · split
        · exact H.setTouchQueue _ _ _
        · exact H.refl s
      · exact H.trans (H.setTouchQueue s x _) (H.of_ite fun _ => H.traffic (latch_traffic _ _ _))

theorem of_setContact (H : PanelClosed R) (i : Fin 2) (v : Option Contact) (s : State) : R s (setContact i v s) := by
  unfold setContact
  split <;> exact H.setTouch _ _

theorem of_slotStep (H : PanelClosed R) (i : Fin 2) (seen : Option (Nat × Nat)) (s : State) : R s (slotStep i seen s) := by
  unfold slotStep
  dsimp only
  split
  · exact H.trans (H.of_setContact _ _ _) (H.of_deliver _ _ _)
  · split
    · exact H.refl s
    · exact H.trans (H.of_deliver _ _ _) (H.of_ite fun _ => H.of_setContact _ _ _)
  · exact H.trans (H.of_setContact _ _ _) (H.of_deliver _ _ _)
  · exact H.refl s

theorem of_liftContact (H : PanelClosed R) (i : Fin 2) (s : State) : R s (liftContact i s) := by
  unfold liftContact
  split
  · exact H.of_deliver _ _ _
  · exact H.refl s

theorem of_touchFault (H : PanelClosed R) (s : State) : R s (touchFault s) :=
  H.trans (H.setTouch s { s.touch with link := .fault }) (H.trans (H.of_liftContact 0 _) (H.trans (H.of_liftContact 1 _)
    (H.trans (H.of_setContact 0 none _) (H.trans (H.of_setContact 1 none _) (H.traffic (latch_traffic _ _ _))))))

theorem of_readFailed (H : PanelClosed R) (s : State) : R s (readFailed s) := by
  unfold readFailed
  dsimp only
  split
  · exact H.trans (H.setTouch s _) (H.of_touchFault _)
  · exact H.trans (H.setTouch s _) (H.setTouch _ _)

theorem of_readGood (H : PanelClosed R) (r : List Byte) (s : State) : R s (readGood r s) :=
  H.trans (H.setTouch s { s.touch with failures := 0 }) (H.trans (H.of_slotStep 0 _ _) (H.trans (H.of_slotStep 1 _ _)
    (H.setTouch _ _)))

/-! ### Transmissions and what ends an event -/

theorem of_touchGone (H : PanelClosed R) (p : Port) (s : State) : R s (touchGone p s) := by
  unfold touchGone
  split
  · exact H.setTouchQueue s _ _
  · exact H.refl s

/-- Of all frames in transmission only a touch event is of the touch router, and the end of another is a traffic step (R83). -/
theorem of_txEnded (H : PanelClosed R) (p : Port) (done : Bool) (src : TxSource) (s : State) : R s (txEnded p done src s) := by
  cases src with
  | touch => exact H.of_touchGone p s
  | part b => exact H.traffic (releaseBlock_traffic _ _ _)
  | notice =>
    cases done with
    | true => exact H.traffic (noticeSent_traffic _ _)
    | false => exact H.traffic (noticeDiscarded_traffic _ _)
  | withdraw e => exact H.traffic (withdrawGone_traffic _ _)
  | reply e held dropped =>
    cases dropped with
    | true => exact H.traffic (releaseHeld_traffic _ _)
    | false => exact H.traffic ((releaseHeld_traffic _ _).trans (replyGone_traffic _ _))
  | forward e ended =>
    cases ended with
    | some h => exact H.traffic (releaseHeld_traffic (some h) _)
    | none => exact H.traffic (forwardSent_traffic _ _)
  | post h => exact H.traffic (releaseHeld_traffic (some h) _)

theorem of_endTx (H : PanelClosed R) (p : Port) (done : Bool) (s : State) : R s (endTx p done s) := by
  unfold endTx
  split
  · exact H.trans (H.traffic (clearTx_traffic _ _)) (H.of_txEnded _ _ _ _)
  · exact H.refl s

theorem of_settle (H : PanelClosed R) (s : State) : R s (settle s) :=
  H.trans (H.panelTake s) (H.stands (panelStands_of_granted (grants_granted _)))

theorem settled (H : PanelClosed R) {s t : State} (h : R s t) : R s (settle t) := H.trans h (H.of_settle t)

theorem settledIf (H : PanelClosed R) {c : Prop} [Decidable c] {s t : State} (h : c → R s t) :
    R s (if c then settle t else s) := H.of_ite fun hc => H.settled (h hc)

theorem of_byteEnd (H : PanelClosed R) (p : Port) (s : State) : R s (byteEnd p s) := by
  rcases byteEnd_cases p s with ⟨eq, -⟩ | ⟨eq, -⟩ <;> rw [eq]
  · exact H.of_settle s
  · exact H.settled (H.trans (H.of_settle s) (H.of_endTx p true _))

theorem of_byteEvent (H : PanelClosed R) {k : State → State} (h : ∀ s, R s (k s)) (p : Port) (s : State) :
    R s (byteEvent p k s) := H.trans (H.traffic (clockOut_traffic p s)) (H.trans (h _) (H.of_byteEnd p _))

/-! ### Timed events -/

theorem of_closeForPd (H : PanelClosed R) (s : State) : R s (closeForPd s) := by
  unfold closeForPd
  split
  · exact H.refl s
  · next opening => exact H.storeClose s _ opening
  · next active => exact H.closeBlank s _ active
  · exact H.refl s

theorem of_teardown (H : PanelClosed R) (p : Port) (st : Status) (s : State) : R s (teardown p st s) := by
  have screen (u : State) : R u (match screenOf p with | some x => tearTouch x (Machine.tearDraw x u) | none => u) := by
    split
    · exact H.trans (H.tearDraw _ _) (H.trans (H.setTouchQueue _ _ _) (H.setTouch _ _))
    · exact H.refl u
  exact H.trans (H.traffic (teardownTraffic p st s)) (H.trans (screen _) (H.trans (H.traffic (clearNotices_traffic p _))
    (H.trans (H.of_ite fun _ => H.of_closeForPd _) (H.traffic (latch_traffic _ _ _)))))

theorem of_stallPort (H : PanelClosed R) (p : Port) (s : State) : R s (stallPort p s) :=
  H.trans (H.of_endTx p false s) (H.trans (H.traffic (Traffic.setLink _ _ _))
    (H.trans (H.traffic (discardPartial_traffic p _)) (H.trans (H.traffic (setRx_traffic p _ _)) (H.of_teardown p _ _))))

theorem of_interByteEvent (H : PanelClosed R) (p : Port) (s : State) : R s (interByteEvent p s) :=
  H.settledIf fun _ => H.traffic ((discardPartial_traffic p s).trans (countError_traffic p _))

theorem of_stallEvent (H : PanelClosed R) (p : Port) (s : State) : R s (stallEvent p s) :=
  H.settledIf fun _ => H.of_stallPort p s

theorem of_refillEvent (H : PanelClosed R) (c : Chn) (s : State) : R s (refillEvent c s) := by
  unfold refillEvent
  split
  · exact H.settledIf fun _ => H.traffic (Traffic.setChan _ _ _)
  · exact H.refl s

theorem of_lastForwardEvent (H : PanelClosed R) (c : Chn) (s : State) : R s (lastForwardEvent c s) := by
  unfold lastForwardEvent
  split
  · exact H.settledIf fun _ => H.traffic (Traffic.setChan _ _ _)
  · exact H.refl s

theorem of_deadlineEvent (H : PanelClosed R) (e : EntryIx) (s : State) : R s (deadlineEvent e s) :=
  H.settledIf fun _ => H.traffic (traffic_closed.of_deadlineReached e s)

theorem of_limitEvent (H : PanelClosed R) (s : State) : R s (limitEvent s) :=
  H.settledIf fun reached => H.trans (H.closeBlank s _ reached.1) (H.traffic (latch_traffic _ _ _))

theorem of_gapEvent (H : PanelClosed R) (c : Chn) (s : State) : R s (gapEvent c s) := by
  unfold gapEvent
  split
  · exact H.settledIf fun _ => H.refl s
  · exact H.refl s

/-- The tick: what it takes before the time moves, and the move (R22). -/
theorem of_tick (H : PanelClosed R) (s : State) :
    R s ((settleRx (takeDue s)).setTime ((settleRx (takeDue s)).time + 1#32)) := by
  have due : R s (takeDue s) :=
    H.trans (H.foldl (fun s p => H.of_interByteEvent p s) allPorts s)
      (H.trans (H.foldl (fun s p => H.of_stallEvent p s) allPorts _)
        (H.trans (H.foldl (fun s c => H.of_refillEvent c s) allChns _)
          (H.trans (H.foldl (fun s c => H.of_lastForwardEvent c s) allChns _)
            (H.trans (H.foldl (fun s e => H.of_deadlineEvent e s) allEntries _)
              (H.trans (H.of_limitEvent _) (H.foldl (fun s c => H.of_gapEvent c s) allChns _))))))
  have rx : R (takeDue s) (settleRx (takeDue s)) := H.foldl (fun s p => H.traffic (setRx_traffic p _ s)) allPorts _
  have moves (u : State) (t : Time) : R u (u.setTime t) := H.stands ⟨rfl, rfl, rfl⟩
  exact H.trans due (H.trans rx (moves _ _))

/-! ### Control requests -/

theorem of_setArea (H : PanelClosed R) (i : AreaId) (v : Area) (s : State) : R s (setArea i v s) := by
  cases i <;> exact H.setPolicy s _

/-- An area switch and FULL_CLEAR leave the panel alone (R101, R139). -/
theorem of_takeSwitch (H : PanelClosed R) (i : AreaId) (s : State) : R s (takeSwitch i s) :=
  H.trans (H.setPolicy s _) (H.traffic (takeSwitch_traffic i s))

theorem of_clearAll (H : PanelClosed R) (s : State) : R s (clearAll s) :=
  H.trans (H.setPolicy s _) (H.traffic (clearAll_traffic s))

theorem of_actQueryLink (H : PanelClosed R) (p : Port) (a : List Byte) (s : State) : R s (actQueryLink p a s).state := by
  unfold actQueryLink
  split
  · exact H.refl s
  · split <;> exact H.refl s

theorem of_actQueryChannel (H : PanelClosed R) (p : Port) (a : List Byte) (s : State) :
    R s (actQueryChannel p a s).state := by
  unfold actQueryChannel
  split
  · exact H.refl s
  · split
    · split <;> exact H.refl s
    · split
      · split <;> exact H.refl s
      · exact H.refl s

theorem of_actHold (H : PanelClosed R) (p : Port) (a : List Byte) (s : State) : R s (actHold p a s).state := by
  unfold actHold
  split
  · exact H.refl s
  · exact H.traffic (setOwnHold_traffic _ _ _)

theorem of_actRelease (H : PanelClosed R) (p : Port) (a : List Byte) (s : State) : R s (actRelease p a s).state := by
  unfold actRelease
  split
  · exact H.refl s
  · exact H.trans (H.traffic (setOwnHold_traffic _ _ _)) (H.of_ite fun _ => H.traffic (latch_traffic _ _ _))

theorem of_actSetBar (H : PanelClosed R) (a : List Byte) (s : State) : R s (actSetBar a s).state := by
  unfold actSetBar
  split
  · exact H.refl s
  · dsimp only
    split
    · exact H.refl s
    · exact H.traffic (barChannel_traffic _ _ _)

theorem of_actClearBar (H : PanelClosed R) (a : List Byte) (s : State) : R s (actClearBar a s).state := by
  unfold actClearBar
  split
  · exact H.refl s
  · exact H.traffic (Traffic.setChan _ _ _)

/-- A policy write leaves the panel alone: it is refused, or it writes an area (R87). -/
theorem of_policyWrite (H : PanelClosed R) {c : Ctl} {act : List Byte → State → Answered} (write : policyWrite c = some act)
    (a : List Byte) (s : State) : R s (act a s).state := by
  cases area : inactiveArea (byteAt a 0) s with
  | error status =>
    rw [policyWrite_refused write area]
    exact H.refl s
  | ok i =>
    cases c <;> cases write
    · simp only [actWriteChannel, area]
      split
      · exact H.of_setArea _ _ _
      · exact H.refl s
    · simp only [actRemoveChannel, area]
      split
      · exact H.of_setArea _ _ _
      · exact H.refl s
    · simp only [actWriteSettings, area]
      split
      · exact H.of_setArea _ _ _
      · exact H.refl s
    · rw [actCopyArea_done area]
      exact H.of_setArea _ _ _

theorem of_actActivate (H : PanelClosed R) (a : List Byte) (s : State) : R s (actActivate a s).state := by
  unfold actActivate
  split
  · exact H.refl s
  · split
    · exact H.setPolicy s _
    · split
      · exact H.of_takeSwitch _ s
      · exact H.setPolicy s _

theorem of_actFullClear (H : PanelClosed R) (a : List Byte) (s : State) : R s (actFullClear a s).state := by
  unfold actFullClear
  split
  · exact H.of_clearAll s
  · exact H.refl s

theorem of_actOpenSession (H : PanelClosed R) (a : List Byte) (s : State) : R s (actOpenSession a s).state := by
  by_cases idle : s.session.state = .idle
  · cases upright : (readOpen a).rect.inverted with
    | true =>
      rw [actOpenSession_inverted idle upright]
      exact H.refl s
    | false =>
      rw [actOpenSession_done idle upright]
      exact H.openSession s a idle upright
  · rw [actOpenSession_busy a idle]
    exact H.refl s

theorem of_actCloseSession (H : PanelClosed R) (a : List Byte) (s : State) : R s (actCloseSession a s).state := by
  unfold actCloseSession
  split
  · exact H.refl s
  · next opening =>
    split
    · exact H.refl s
    · exact H.storeClose s _ opening
  · next active =>
    cases closeOf a s with
    | blank colour => exact H.closeBlank s colour active
    | plain => exact H.closePlain s active
  · exact H.refl s

theorem of_actTouchRestart (H : PanelClosed R) (a : List Byte) (s : State) : R s (actTouchRestart a s).state :=
  H.of_ite fun _ => H.trans (H.setTouch s _) (H.setTouch _ _)

/-! ### Frames -/

theorem of_frameEvent (H : PanelClosed R) (p : Port) (b : Byte) (want : RxFrame → Bool) {k : RxFrame → State → State}
    (h : ∀ f s, R s (k f s)) (s : State) : R s (frameEvent p b want k s) := by
  unfold frameEvent
  split
  · exact H.of_ite fun _ => H.of_byteEvent (fun s => H.trans (H.traffic (setRx_traffic p .hunt s)) (h _ _)) p s
  all_goals exact H.refl s

/-- A frame is taken, or answered or counted without being taken (R38, R160). -/
theorem of_handOn (H : PanelClosed R) (p : Port) (f : RxFrame) {take : Nat → List Byte → State → State}
    (h : ∀ n b s, R s (take n b s)) (s : State) : R s (handOn p f take s) := by
  unfold handOn
  split
  · split
    · exact h _ _ _
    · exact H.traffic ((release_traffic _ _ _).trans (countError_traffic _ _))
  · exact H.traffic (pushPart_traffic _ _ _)
  · exact H.refl s
  · exact H.traffic (countError_traffic _ _)

/-- The arrival of a frame that is handed on: of a type other than CONTROL, or of a control request. -/
theorem of_frame (H : PanelClosed R) (p : Port) (b : Byte) (want : RxFrame → Bool) {take : Nat → List Byte → State → State}
    (h : ∀ n body s, R s (take n body s)) (s : State) :
    Leaves R s (.next (frameEvent p b want (fun f s => handOn p f take s) s)) :=
  ⟨_, rfl, H.of_frameEvent p b want (fun f s => H.of_handOn p f h s) s⟩

theorem of_trafficFrame (H : PanelClosed R) (ty : FrameType) (p : Port) (b : Byte)
    {take : Nat → List Byte → State → State} (h : ∀ n body s, Traffic s (take n body s)) (s : State) :
    Leaves R s (.next (typedFrame ty p b take s)) := H.of_frame p b _ (fun n body s => H.traffic (h n body s)) s

theorem of_controlFrame (H : PanelClosed R) (c : Ctl) (p : Port) (b : Byte) {act : List Byte → State → Answered}
    (h : ∀ a s, R s (act a s).state) (s : State) : Leaves R s (.next (controlFrame c p b act s)) := by
  refine H.of_frame p b _ (fun n body s => H.trans (H.trans (H.traffic (release_traffic p (n - 1) s)) ?_)
    (H.traffic (pushPart_traffic _ _ _))) s
  unfold checked
  split
  · exact H.refl _
  · split
    · exact H.refl _
    · exact h _ _

/-- A control request, whatever it asks for. -/
theorem of_ctlCommand (H : PanelClosed R) (c : Ctl) (p : Port) (b : Byte) (s : State) :
    Leaves R s (exec (ctlCommand c p b) s) := by
  cases c with
  | queryLink => exact H.of_controlFrame _ p b (H.of_actQueryLink p) s
  | queryChannel => exact H.of_controlFrame _ p b (H.of_actQueryChannel p) s
  | querySession => exact H.of_controlFrame _ p b (fun _ s => H.refl s) s
  | queryNotices => exact H.of_controlFrame _ p b (fun _ s => H.traffic (takeNotices_traffic p s)) s
  | setNoticeMask => exact H.of_controlFrame _ p b (fun _ s => H.traffic (replaceMask_traffic p _ s)) s
  | hold => exact H.of_controlFrame _ p b (H.of_actHold p) s
  | release => exact H.of_controlFrame _ p b (H.of_actRelease p) s
  | setBar => exact H.of_controlFrame _ p b H.of_actSetBar s
  | clearBar => exact H.of_controlFrame _ p b H.of_actClearBar s
  | writeChannel => exact H.of_controlFrame _ p b (H.of_policyWrite (c := .writeChannel) rfl) s
  | removeChannel => exact H.of_controlFrame _ p b (H.of_policyWrite (c := .removeChannel) rfl) s
  | writeSettings => exact H.of_controlFrame _ p b (H.of_policyWrite (c := .writeSettings) rfl) s
  | copyArea => exact H.of_controlFrame _ p b (H.of_policyWrite (c := .copyArea) rfl) s
  | activate => exact H.of_controlFrame _ p b H.of_actActivate s
  | fullClear => exact H.of_controlFrame _ p b H.of_actFullClear s
  | openSession => exact H.of_controlFrame _ p b H.of_actOpenSession s
  | closeSession => exact H.of_controlFrame _ p b H.of_actCloseSession s
  | touchRestart => exact H.of_controlFrame _ p b H.of_actTouchRestart s

theorem of_controlMalformed (H : PanelClosed R) (p : Port) (b : Byte) (s : State) :
    Leaves R s (execControlMalformed p b s) := H.of_frame p b _ (fun _ _ s => H.traffic (verdict_traffic _ _ _ _ _ s)) s

theorem of_unknownRequest (H : PanelClosed R) (p : Port) (b : Byte) (s : State) : Leaves R s (execUnknownRequest p b s) :=
  H.of_frame p b _ (fun _ _ s => H.traffic ((release_traffic p _ s).trans (pushPart_traffic _ _ _))) s

theorem of_control (H : PanelClosed R) (p : Port) (b : Byte) (body : List Byte) (s : State) :
    Leaves R s (execControl p b body s) := by
  by_cases short : body.length < 2
  · rw [execControl, if_pos short]
    exact H.of_controlMalformed p b s
  · cases code : ctlOf (byteAt body 0) with
    | none =>
      rw [execControl, if_neg short, code]
      exact H.of_unknownRequest p b s
    | some c =>
      rw [EventClosed.execControl_of_code p b s short code]
      exact H.of_ctlCommand c p b s

theorem of_takeHello (H : PanelClosed R) (p : Port) (block : BlockRef) (s : State) : R s (takeHello p block s) := by
  have up : Traffic s (latch .pd .linkChange (holdPeerChannels p (s.setLink p { s.link p with state := .up }))) :=
    (Traffic.setLink _ _ _).trans ((holdPeerChannels_traffic p _).trans (latch_traffic _ _ _))
  unfold takeHello
  split
  · exact H.trans (H.of_teardown p _ s) (H.traffic ((holdPeerChannels_traffic p _).trans (pushPart_traffic _ _ _)))
  · exact H.traffic (up.trans (pushPart_traffic _ _ _))
  · exact H.traffic (up.trans (pushPart_traffic _ _ _))

theorem of_heldHello (H : PanelClosed R) (p : Port) (len : Nat) (h : RxHold) (s : State) : R s (heldHello p len h s) := by
  unfold heldHello
  split
  · split
    · exact H.trans (H.traffic (release_traffic _ _ _)) (H.of_takeHello _ _ _)
    · exact H.traffic ((release_traffic _ _ _).trans (countError_traffic _ _))
  · split
    · exact H.of_takeHello _ _ _
    · exact H.traffic ((freeReserve_traffic _ _).trans (countError_traffic _ _))
  · exact H.refl s
  · exact H.traffic (countError_traffic _ _)

theorem of_goodHello (H : PanelClosed R) (p : Port) (f : RxFrame) (s : State) : R s (goodHello p f s) := by
  unfold goodHello
  split
  · exact H.of_heldHello _ _ _ _
  · exact H.of_heldHello _ _ _ _
  · exact H.of_heldHello _ _ _ _
  · exact H.trans (H.traffic (holdFrame_traffic _ _ _ _)) (H.of_heldHello _ _ _ _)

theorem of_hello (H : PanelClosed R) (p : Port) (b : Byte) (s : State) : Leaves R s (execHello p b s) :=
  ⟨_, rfl, H.of_frameEvent p b _ (H.of_goodHello p) s⟩

theorem of_good (H : PanelClosed R) (p : Port) (b : Byte) (f : RxFrame) (s : State) : Leaves R s (execGood p b f s) := by
  unfold execGood
  split
  · exact H.of_hello p b s
  · exact H.of_trafficFrame _ p b (traffic_closed.of_takeRequest p) s
  · exact H.of_trafficFrame _ p b (traffic_closed.of_takePost p) s
  · exact H.of_trafficFrame _ p b (traffic_closed.of_takeReply p) s
  · exact H.of_trafficFrame _ p b (traffic_closed.of_takeExtend p) s
  · exact H.of_trafficFrame _ p b (traffic_closed.of_takeCancel p) s
  · exact H.of_control p b _ s
  · exact H.of_frame p b _ (H.of_takeDrawWindow p) s
  · exact H.of_frame p b _ (H.of_takeDrawPixels p) s

/-! ### Bytes that take no good frame -/

theorem of_trafficByte (H : PanelClosed R) {k : State → State} (h : ∀ s, Traffic s (k s)) (p : Port) (s : State) :
    Leaves R s (.next (byteEvent p k s)) := ⟨_, rfl, H.of_byteEvent (fun s => H.traffic (h s)) p s⟩

theorem of_idle (H : PanelClosed R) (s : State) : Leaves R s (.next s) := ⟨_, rfl, H.refl s⟩

theorem of_frameHeader (H : PanelClosed R) (p : Port) (b : Byte) (s : State) : Leaves R s (execFrameHeader p b s) := by
  unfold execFrameHeader
  split
  · exact H.of_trafficByte (fun s => takeHeader_traffic p _ _ b s) p s
  all_goals exact H.of_idle s

theorem of_unknownType (H : PanelClosed R) (p : Port) (b : Byte) (s : State) :
    Leaves R s (execUnknownTypeDiscard p b s) := by
  unfold execUnknownTypeDiscard
  split
  · exact H.of_trafficByte (fun s => (countError_traffic p s).trans ((setRx_traffic _ _ _).trans (reexamine_traffic _ _ _))) p s
  all_goals exact H.of_idle s

theorem of_lengthOverrun (H : PanelClosed R) (p : Port) (b : Byte) (s : State) :
    Leaves R s (execLengthOverrunDiscard p b s) := by
  unfold execLengthOverrunDiscard
  split
  · exact H.of_trafficByte (fun s => (countError_traffic p s).trans ((setRx_traffic _ _ _).trans
      ((reexamine_traffic _ _ _).trans ((reexamine_traffic _ _ _).trans (reexamine_traffic _ _ _))))) p s
  all_goals exact H.of_idle s

theorem of_crcMismatch (H : PanelClosed R) (p : Port) (b : Byte) (s : State) : Leaves R s (execCrcMismatch p b s) := by
  unfold execCrcMismatch
  split
  · exact H.of_trafficByte (fun s => (setRx_traffic p _ s).trans ((releaseHold_traffic _ _ _).trans (countError_traffic _ _))) p s
  all_goals exact H.of_idle s

theorem of_receiveByte (H : PanelClosed R) (p : Port) (b : Byte) (s : State) :
    Leaves R s (execReceiveAssemblyByte p b s) := by
  unfold execReceiveAssemblyByte
  split
  · exact H.of_trafficByte (fun s => setRx_traffic p _ s) p s
  · exact H.of_unknownType p b s
  · exact H.of_lengthOverrun p b s
  · exact H.of_frameHeader p b s
  · exact H.of_crcMismatch p b s
  · exact H.of_good p b _ s

/-! ### Every command -/

theorem of_settled (H : PanelClosed R) {s t : State} (h : R s t) : Leaves R s (.next (settle t)) := ⟨_, rfl, H.settled h⟩

theorem of_framingError (H : PanelClosed R) (s : State) : Leaves R s (execFramingError s) := by
  unfold execFramingError
  split
  · exact H.of_settled (H.traffic ((discardPartial_traffic _ _).trans (countError_traffic _ _)))
  · exact ⟨_, rfl, H.traffic (setRx_traffic .rd _ s)⟩

theorem of_channelCommand (H : PanelClosed R) {f : Chn → State → State} (h : ∀ c s, R s (f c s)) (c : Nat) (s : State) :
    Leaves R s (match chnOf c with | some c => .next (f c s) | none => .next s) := by
  cases chnOf c with
  | none => exact H.of_idle s
  | some c => exact ⟨_, rfl, h c s⟩

theorem of_deadline (H : PanelClosed R) (e : Nat) (s : State) : Leaves R s (execDeadline e s) := by
  unfold execDeadline
  split
  · exact ⟨_, rfl, H.of_deadlineEvent _ s⟩
  · exact H.of_idle s

theorem of_runComplete (H : PanelClosed R) (s : State) : Leaves R s (execRunComplete s) := by
  unfold execRunComplete
  split
  · next r running => exact H.of_settled (H.runCompleted s r running)
  · exact H.of_idle s

theorem of_touchReadNack (H : PanelClosed R) (s : State) : Leaves R s (execTouchReadNack s) := by
  unfold execTouchReadNack
  split
  · exact H.of_settled (H.of_readFailed s)
  · exact H.of_idle s

theorem of_touchReadComplete (H : PanelClosed R) (report : List Byte) (s : State) :
    Leaves R s (execTouchReadComplete report s) := by
  unfold execTouchReadComplete
  split
  · split
    · exact H.of_settled (H.of_readGood report s)
    · exact H.of_settled (H.of_readFailed s)
  · exact H.of_idle s

/-- Every command but the power-on reset, which writes the whole state. -/
theorem of_exec (H : PanelClosed R) (i : Instr) (s : State) (reset : i ≠ .powerOnReset) : Leaves R s (exec i s) := by
  cases i with
  | powerOnReset => exact absurd rfl reset
  | timeBaseTick => exact ⟨_, rfl, H.of_tick s⟩
  | frameHeader p b => exact H.of_frameHeader p b s
  | unknownTypeDiscard p b => exact H.of_unknownType p b s
  | lengthOverrunDiscard p b => exact H.of_lengthOverrun p b s
  | crcMismatch p b => exact H.of_crcMismatch p b s
  | interByteTimeout p => exact ⟨_, rfl, H.of_interByteEvent p s⟩
  | framingError => exact H.of_framingError s
  | ctsChange a l => exact ⟨_, rfl, H.stands ⟨rfl, rfl, rfl⟩⟩
  | hello p b => exact H.of_hello p b s
  | request p b => exact H.of_trafficFrame _ p b (traffic_closed.of_takeRequest p) s
  | post p b => exact H.of_trafficFrame _ p b (traffic_closed.of_takePost p) s
  | reply p b => exact H.of_trafficFrame _ p b (traffic_closed.of_takeReply p) s
  | extend p b => exact H.of_trafficFrame _ p b (traffic_closed.of_takeExtend p) s
  | cancel p b => exact H.of_trafficFrame _ p b (traffic_closed.of_takeCancel p) s
  | drawWindow p b => exact H.of_frame p b _ (H.of_takeDrawWindow p) s
  | drawPixels p b => exact H.of_frame p b _ (H.of_takeDrawPixels p) s
  | unknownRequest p b => exact H.of_unknownRequest p b s
  | queryLink p b => exact H.of_ctlCommand .queryLink p b s
  | queryChannel p b => exact H.of_ctlCommand .queryChannel p b s
  | querySession p b => exact H.of_ctlCommand .querySession p b s
  | queryNotices p b => exact H.of_ctlCommand .queryNotices p b s
  | setNoticeMask p b => exact H.of_ctlCommand .setNoticeMask p b s
  | hold p b => exact H.of_ctlCommand .hold p b s
  | release p b => exact H.of_ctlCommand .release p b s
  | setBar p b => exact H.of_ctlCommand .setBar p b s
  | clearBar p b => exact H.of_ctlCommand .clearBar p b s
  | writeChannel p b => exact H.of_ctlCommand .writeChannel p b s
  | removeChannel p b => exact H.of_ctlCommand .removeChannel p b s
  | writeSettings p b => exact H.of_ctlCommand .writeSettings p b s
  | copyArea p b => exact H.of_ctlCommand .copyArea p b s
  | activate p b => exact H.of_ctlCommand .activate p b s
  | fullClear p b => exact H.of_ctlCommand .fullClear p b s
  | openSession p b => exact H.of_ctlCommand .openSession p b s
  | closeSession p b => exact H.of_ctlCommand .closeSession p b s
  | touchRestart p b => exact H.of_ctlCommand .touchRestart p b s
  | transmissionComplete p => exact ⟨_, rfl, H.settledIf fun _ => H.of_endTx p true s⟩
  | gapWaitEnd c => exact H.of_channelCommand H.of_gapEvent c s
  | lastForwardTimeExpiry c => exact H.of_channelCommand H.of_lastForwardEvent c s
  | refill c => exact H.of_channelCommand H.of_refillEvent c s
  | deadline e => exact H.of_deadline e s
  | stall p => exact ⟨_, rfl, H.of_stallEvent p s⟩
  | sessionLimitExpiry => exact ⟨_, rfl, H.of_limitEvent s⟩
  | runComplete => exact H.of_runComplete s
  | attentionAssert => exact ⟨_, rfl, H.setTouch s _⟩
  | touchReadNack => exact H.of_touchReadNack s
  | touchReadComplete report => exact H.of_touchReadComplete report s
  | attentionRelease => exact ⟨_, rfl, H.setTouch s _⟩
  | controlMalformed p b => exact H.of_controlMalformed p b s
  | receiveAssemblyByte p b => exact H.of_receiveByte p b s

/-- A step leaves the panel as after reset, or makes such a change. -/
theorem of_step (H : PanelClosed R) {s t : State} (h : step s = .next t) : PanelStands State.reset t ∨ R s t := by
  unfold step at h
  split at h
  · cases h
    exact .inr (H.refl s)
  · next i rest _ =>
    by_cases reset : i = .powerOnReset
    · subst reset
      cases h
      exact .inl ⟨rfl, rfl, rfl⟩
    · obtain ⟨u, next, event⟩ := H.of_exec i { s with pending := rest } reset
      rw [next] at h
      cases h
      have taken : PanelStands s { s with pending := rest } := ⟨rfl, rfl, rfl⟩
      exact .inr (H.trans (H.stands taken) event)

end PanelClosed

end Sys2Proof.Proofs
end

section
/-! No pixel of an AD run in progress lies inside the rectangle of an ACTIVE or CLOSING session (R113): a run is formed outside the
rectangle of an open session (R129), stays where it lies, and the rectangle stands until the session returns to IDLE; a session does
not become ACTIVE before the AD run in progress has completed (R107, R108). -/

namespace Sys2Proof.Proofs

open Sys2Proof Sys2Proof.Machine Sys2Proof.Safety

/-- The rectangle of the session is protected from runs in progress (R113). -/
def Guarded (s : State) : Prop := s.session.state = .active ∨ s.session.state = .closing

theorem panelOk_of_unguarded {s : State} (h : ¬ Guarded s) : PanelOk s := fun guarded => absurd guarded h

theorem panelOk_of_no_adRun {s : State} (h : ¬ AdRun s) : PanelOk s := fun _ r run ad => absurd ⟨r, run, ad⟩ h

theorem panelOk_of_free {s : State} (h : s.run = none) : PanelOk s :=
  panelOk_of_no_adRun fun ⟨r, run, _⟩ => by simp [h] at run

/-! ## The run stays, and the rectangle stands -/

/-- A run but for the blocks that its completion releases: where it lies, and its pixels (R133, R136). -/
def laid (r : Run) : Run := { r with last := none }

theorem laid_runPixel (r : Run) (k : Nat) : runPixel (laid r) k = runPixel r k := rfl

/-- From `s` to `t` the run in progress stays where it lies, and no rectangle becomes protected. -/
structure Lasting (s t : State) : Prop where
  run : t.run.map laid = s.run.map laid
  guarded : Guarded t → Guarded s
  rect : t.session.record.map SessRecord.rect = s.session.record.map SessRecord.rect

theorem panelOk_of_lasting {s t : State} (h : Lasting s t) (ok : PanelOk s) : PanelOk t := by
  intro guarded r running ad q record k inside
  obtain ⟨r', running', same⟩ := Option.map_eq_some_iff.mp (h.run.symm.trans (congrArg (Option.map laid) running))
  obtain ⟨q', record', rect⟩ := Option.map_eq_some_iff.mp (h.rect.symm.trans (congrArg (Option.map SessRecord.rect) record))
  have pixels : (laid r').pixels = (laid r).pixels := by rw [same]
  have source : (laid r').source = (laid r).source := by rw [same]
  have place : runPixel r' k = runPixel r k := by rw [← laid_runPixel, same, laid_runPixel]
  rw [← rect, ← place]
  exact ok (h.guarded guarded) r' running' (source.trans ad) q' record' k (lt_of_lt_of_eq inside (congrArg List.length pixels.symm))

theorem lasting_of_session {s t : State} (session : t.session = s.session) (run : t.run.map laid = s.run.map laid) :
    Lasting s t := ⟨run, by rw [Guarded, Guarded, session]; exact id, by rw [session]⟩

/-- A teardown gives the run in progress its frame's blocks, and the run goes on where it lies (R138). -/
theorem tearDraw_lasting (x : Screen) (s : State) : Lasting s (tearDraw x s) := by
  refine lasting_of_session (tearDraw_quiet x s).session ?_
  unfold tearDraw
  dsimp only
  split
  · next r running =>
    split
    · rw [running]; rfl
    · rfl
  · rfl

/-! ## The session -/

theorem enterActive_run (s : State) : (enterActive s).run = s.run := (latchAll_traffic _ _).run

theorem returnToIdle_run (s : State) : (returnToIdle s).run = s.run := by
  have switched (u : State) : (takePending u).run = u.run := by
    unfold takePending
    split
    · exact (takeSwitch_traffic _ _).run
    · rfl
  exact (switched _).trans ((latchAll_traffic _ _).run.trans (releaseQuiet_traffic _).run)

theorem enterClosing_run (k : Close) (s : State) : (enterClosing k s).run = s.run := by
  cases k with
  | blank colour => exact (latchAll_traffic .sessionChange _).run
  | plain => exact (returnToIdle_run _).trans (latchAll_traffic .sessionChange _).run

theorem endOpening_run (s : State) : (endOpening s).run = s.run := by
  unfold endOpening
  split
  · exact enterClosing_run _ s
  · exact enterActive_run s

/-- The completion of a run frees the panel link (R137). -/
theorem runCompleted_run (r : Run) (s : State) : (runCompleted r s).run = none := by
  have frame (c : Prop) [Decidable c] {t : State} (free : t.run = none) : (if c then endOpening t else t).run = none := by
    split
    · rw [endOpening_run, free]
    · exact free
  unfold runCompleted
  dsimp only
  split
  · cases r.last <;> exact frame _ rfl
  · split
    · exact returnToIdle_run _
    · rfl

/-- A close with blank goes on protecting the rectangle of the ACTIVE session (R113, R114). -/
theorem closeBlank_lasting {s : State} (colour : Half) (active : s.session.state = .active) :
    Lasting s (enterClosing (.blank colour) s) := by
  refine ⟨by rw [enterClosing_run], fun _ => .inl active, ?_⟩
  cases record : s.session.record <;>
    simp [enterClosing, editRecord, latchAll_session, record]

theorem storeClose_lasting (k : Close) (s : State) : Lasting s (storeClose k s) := by
  refine ⟨rfl, id, ?_⟩
  cases record : s.session.record <;> simp [storeClose, editRecord, record]

/-- A session opens ACTIVE only where no AD run is in progress (R107, R109). -/
theorem openSession_panelOk (a : OpenArgs) (s : State) : PanelOk (openSession a s) := by
  by_cases running : AdRun s
  · rw [openSession_waits a running]
    refine panelOk_of_unguarded ?_
    rw [Guarded, latchAll_session]
    nofun
  · rw [openSession_starts a running]
    refine panelOk_of_no_adRun ?_
    rwa [adRun_iff, (latchAll_traffic _ _).run, State.setSession_run, ← adRun_iff]

/-! ## The take of the panel arbiter -/

/-- An AD run that a take begins is the one that AD's formation gives (R131, R134). -/
theorem panelTake_adRun {s : State} (free : s.run = none) {r : Run} (running : (panelTake s).run = some r)
    (ad : r.source = .frame .ad) : (formFor s .ad).run = some r := by
  obtain ⟨-, -, laid, -, -, takes⟩ := panelTakes
  obtain ⟨pd, others⟩ := (takes s).2 free
  cases formed : (formFor s .pd).run with
  | some q =>
    rw [pd q formed] at running
    cases running
    rw [(laid s .pd r formed).1] at ad
    cases ad
  | none =>
    obtain ⟨fill, last⟩ := others formed
    cases filling : fillRun s with
    | some q =>
      rw [fill q filling] at running
      cases running
      rw [(fillRun_some filling).1] at ad
      cases ad
    | none =>
      rw [last filling] at running
      exact running

theorem panelTake_rect (s : State) :
    (panelTake s).session.record.map SessRecord.rect = s.session.record.map SessRecord.rect := by
  rcases (panelTake_taken s).record with same | row
  · rw [same]
  · rw [row, Option.map_map]
    rfl

/-- A run that is taken lies outside the rectangle of an open session (R129). -/
theorem panelTake_panelOk {s : State} (ok : PanelOk s) : PanelOk (panelTake s) := by
  cases free : s.run with
  | some r => rwa [panelTake_of_run (by rw [free]; rfl)]
  | none =>
    intro guarded r running ad q record k inside
    obtain ⟨-, -, -, unmasked, -⟩ := panelTakes
    obtain ⟨q', record', rect⟩ := Option.map_eq_some_iff.mp
      ((panelTake_rect s).symm.trans (congrArg (Option.map SessRecord.rect) record))
    have busy : s.session.state ≠ .idle := by
      rw [← (panelTake_taken s).state]
      rcases guarded with h | h <;> rw [h] <;> nofun
    rw [← rect]
    exact (unmasked s r (panelTake_adRun free running ad) k inside).2 q' record' busy

/-! ## Every step -/

theorem panelOk_of_stands {s t : State} (h : PanelStands s t) (ok : PanelOk s) : PanelOk t :=
  panelOk_of_lasting (lasting_of_session h.session (by rw [h.run])) ok

/-- Every change of the session, the draw states and the run keeps the AD run in progress out of a protected rectangle. -/
theorem panelOk_closed : PanelClosed (fun s t => PanelOk s → PanelOk t) where
  stands := panelOk_of_stands
  trans h k ok := k (h ok)
  queueDraw _ _ _ _ _ := panelOk_of_lasting (lasting_of_session rfl rfl)
  tearDraw x s := panelOk_of_lasting (tearDraw_lasting x s)
  panelTake _ := panelTake_panelOk
  closeBlank _ colour active := panelOk_of_lasting (closeBlank_lasting colour active)
  closePlain s _ _ := panelOk_of_unguarded (by rw [Guarded, closePlain_idle]; nofun)
  storeClose s k _ := panelOk_of_lasting (storeClose_lasting k s)
  openSession s a _ _ _ := openSession_panelOk _ s
  runCompleted s r _ _ := panelOk_of_free (runCompleted_run r s)

/-- Settles O9: each change of the panel keeps the invariant (`panelOk_closed`), and after the reset no run is in progress. -/
theorem stepKeepsPanel : Obligations.StepKeepsPanel := by
  unfold Obligations.StepKeepsPanel
  intro s t ok step
  rcases panelOk_closed.of_step step with reset | kept
  · exact panelOk_of_free reset.run
  · exact kept ok

end Sys2Proof.Proofs
end

section
/-! Touch events: how an event joins the queue of its contact's owner, and one slot of a good read against the contact table (R120, R146
to R151). -/

namespace Sys2Proof.Proofs

open Sys2Proof Sys2Proof.Machine Sys2Proof.Safety

/-! ## The queued events at a full queue -/

/-- The newest event of the slot, where it is a MOVE, takes the new position and time (R150). In `replaceNewest` the queue is reversed, so
`newer` are the events behind it. -/
theorem replaceNewest_of_move {ev m : TouchEvent} {newer older : List TouchEvent} (others : ∀ k ∈ newer, k.slot ≠ ev.slot)
    (slot : m.slot = ev.slot) (move : m.kind = .move) :
    replaceNewest ev (newer ++ m :: older) =
      some (newer ++ { m with px := ev.px, py := ev.py, time := ev.time } :: older) := by
  induction newer with
  | nil => simp [replaceNewest, slot, isMove, move]
  | cons k newer ih =>
    obtain ⟨other, rest⟩ := List.forall_mem_cons.mp others
    simp [replaceNewest, other, ih rest]

theorem replaceNewest_of_not_move {ev : TouchEvent} (q : List TouchEvent)
    (h : ∀ newer m older, q = newer ++ m :: older → m.slot = ev.slot → (∀ k ∈ newer, k.slot ≠ ev.slot) → m.kind ≠ .move) :
    replaceNewest ev q = none := by
  induction q with
  | nil => rfl
  | cons k q ih =>
    by_cases slot : k.slot = ev.slot
    · have edge := h [] k q rfl slot nofun
      simp [replaceNewest, slot, isMove, edge]
    · have rest := ih fun newer m older eq own others =>
        h (k :: newer) m older (by rw [eq]; rfl) own (List.forall_mem_cons.mpr ⟨slot, others⟩)
      simp [replaceNewest, slot, rest]

theorem eraseP_isMove {a b : List TouchEvent} {m : TouchEvent} (move : m.kind = .move) (first : ∀ k ∈ a, k.kind ≠ .move) :
    (a ++ m :: b).eraseP isMove = a ++ b := by
  rw [List.eraseP_append_right _ (fun k hk => by simpa [isMove] using first k hk), List.eraseP_cons_of_pos (by simp [isMove, move])]

theorem any_isMove {a b : List TouchEvent} {m : TouchEvent} (move : m.kind = .move) : (a ++ m :: b).any isMove = true := by
  simp [isMove, move]

theorem any_isMove_eq_false {q : List TouchEvent} (none : ∀ k ∈ q, k.kind ≠ .move) : q.any isMove = false := by
  simpa [isMove] using none

/-- The newest MOVE of its contact takes the new position (R150). -/
theorem moveIntoFull_newest {ev m : TouchEvent} {a b : List TouchEvent} (slot : m.slot = ev.slot)
    (others : ∀ k ∈ b, k.slot ≠ ev.slot) (move : m.kind = .move) :
    moveIntoFull ev (a ++ m :: b) = some (a ++ { m with px := ev.px, py := ev.py, time := ev.time } :: b) := by
  have found : replaceNewest ev (a ++ m :: b).reverse =
      some (b.reverse ++ { m with px := ev.px, py := ev.py, time := ev.time } :: a.reverse) := by
    rw [List.reverse_append, List.reverse_cons, List.append_assoc]
    exact replaceNewest_of_move (fun k hk => others k (List.mem_reverse.mp hk)) slot move
  rw [moveIntoFull, found]
  simp

/-- No MOVE of the slot is the newest event of its contact: a MOVE of the present contact is not queued (log entry 9). -/
def NoneOfContact (i : Fin 2) (q : List TouchEvent) : Prop :=
  ∀ a m b, q = a ++ m :: b ∧ m.slot = i ∧ (∀ k ∈ b, k.slot ≠ i) → m.kind ≠ .move

theorem replaceNewest_reverse {ev : TouchEvent} {q : List TouchEvent} (h : NoneOfContact ev.slot q) :
    replaceNewest ev q.reverse = none := by
  refine replaceNewest_of_not_move _ fun newer m older eq own others => h older.reverse m newer.reverse ⟨?_, own, ?_⟩
  · rw [← List.reverse_reverse q, eq]
    simp
  · exact fun k hk => others k (List.mem_reverse.mp hk)

/-- Otherwise the MOVE costs the oldest MOVE (R150). -/
theorem moveIntoFull_oldest {ev m : TouchEvent} {a b : List TouchEvent} (new : NoneOfContact ev.slot (a ++ m :: b))
    (move : m.kind = .move) (first : ∀ k ∈ a, k.kind ≠ .move) : moveIntoFull ev (a ++ m :: b) = some (a ++ b ++ [ev]) := by
  rw [moveIntoFull, replaceNewest_reverse new]
  dsimp only
  rw [if_pos (any_isMove move), eraseP_isMove move first]

/-- Where none is queued it is dropped (R150). -/
theorem moveIntoFull_dropped {ev : TouchEvent} {q : List TouchEvent} (none : ∀ k ∈ q, k.kind ≠ .move) :
    moveIntoFull ev q = .none := by
  have new : NoneOfContact ev.slot q := fun a m b h => none m (by rw [h.1]; simp)
  rw [moveIntoFull, replaceNewest_reverse new]
  dsimp only
  rw [any_isMove_eq_false none]
  rfl

/-- A DOWN or UP costs the oldest MOVE (R151). -/
theorem edgeIntoFull_oldest {ev m : TouchEvent} {a b : List TouchEvent} (move : m.kind = .move)
    (first : ∀ k ∈ a, k.kind ≠ .move) : edgeIntoFull ev (a ++ m :: b) = (a ++ b ++ [ev], false) := by
  rw [edgeIntoFull, if_pos (any_isMove move), eraseP_isMove move first]

/-- Where none is queued it costs the oldest event, and one is lost (R151). -/
theorem edgeIntoFull_lost {ev : TouchEvent} {q : List TouchEvent} (none : ∀ k ∈ q, k.kind ≠ .move) :
    edgeIntoFull ev q = (q.drop 1 ++ [ev], true) := by
  rw [edgeIntoFull, any_isMove_eq_false none]
  rfl

/-! ## An event joins the queue of its owner -/

theorem deliver_of_room {x : Screen} (ev : TouchEvent) {s : State} (room : (s.touchQueue x).length < 8) :
    deliver (some x) ev s = (s.setTouchQueue x (s.touchQueue x ++ [ev]), true) := if_pos room

theorem latch_touchQueue (p : Port) (k : Condition) (x : Screen) (s : State) : (latch p k s).touchQueue x = s.touchQueue x := by
  rw [State.touchQueue, (latch_traffic p k s).touch, State.touchQueue]

/-- A queue that is not the owner's stands. -/
theorem deliver_touchQueue_ne {o : Option Screen} {x : Screen} (ev : TouchEvent) (s : State) (other : o ≠ some x) :
    (deliver o ev s).1.touchQueue x = s.touchQueue x := by
  cases o with
  | none => rfl
  | some y =>
    have ne : x ≠ y := fun eq => other (congrArg _ eq.symm)
    have writes (q : List TouchEvent) : (s.setTouchQueue y q).touchQueue x = s.touchQueue x := by
      rw [State.setTouchQueue_touchQueue, if_neg ne]
    simp only [deliver, joinTouch]
    split
    · exact writes _
    · split
      · split
        · exact writes _
        · rfl
      · split
        · rw [latch_touchQueue, writes]
        · exact writes _

section
variable {x : Screen} {ev : TouchEvent} {s : State} (full : 8 ≤ (s.touchQueue x).length)
include full

theorem deliver_edge (edge : ev.kind ≠ .move) {sent queued l : List TouchEvent} {lost : Bool}
    (split : splitQueue s x = (sent, queued)) (h : edgeIntoFull ev queued = (l, lost)) :
    deliver (some x) ev s =
      (if lost then latch (portOfScreen x) .touchLost (s.setTouchQueue x (sent ++ l)) else s.setTouchQueue x (sent ++ l),
        true) := by
  have no : ¬ isMove ev = true := by simpa [isMove] using edge
  refine (if_neg (Nat.not_lt.mpr full)).trans ?_
  simp only [split, h, no, if_false, Bool.false_eq_true]

/-- A DOWN or UP at a full queue costs the oldest MOVE (R151). -/
theorem deliver_edge_oldest (edge : ev.kind ≠ .move) {sent a b : List TouchEvent} {m : TouchEvent}
    (split : splitQueue s x = (sent, a ++ m :: b)) (move : m.kind = .move) (first : ∀ k ∈ a, k.kind ≠ .move) :
    deliver (some x) ev s = (s.setTouchQueue x (sent ++ (a ++ b) ++ [ev]), true) := by
  rw [deliver_edge full edge split (edgeIntoFull_oldest move first), List.append_assoc sent]
  rfl

/-- Or else it costs the oldest event, and TOUCH_LOST is latched (R151). -/
theorem deliver_edge_lost (edge : ev.kind ≠ .move) {sent queued : List TouchEvent} (split : splitQueue s x = (sent, queued))
    (none : ∀ k ∈ queued, k.kind ≠ .move) :
    deliver (some x) ev s =
      (latch (portOfScreen x) .touchLost (s.setTouchQueue x (sent ++ queued.drop 1 ++ [ev])), true) := by
  rw [deliver_edge full edge split (edgeIntoFull_lost none), List.append_assoc sent]
  rfl

section
variable (move : ev.kind = .move) {sent queued : List TouchEvent} (split : splitQueue s x = (sent, queued))
include move split

/-- A MOVE at a full queue takes a place (R150). -/
theorem deliver_move {l : List TouchEvent} (h : moveIntoFull ev queued = some l) :
    deliver (some x) ev s = (s.setTouchQueue x (sent ++ l), true) := by
  refine (if_neg (Nat.not_lt.mpr full)).trans ?_
  simp [isMove, move, split, h]

/-- Or it is dropped (R150). -/
theorem deliver_dropped (none : ∀ k ∈ queued, k.kind ≠ .move) : deliver (some x) ev s = (s, false) := by
  refine (if_neg (Nat.not_lt.mpr full)).trans ?_
  simp [isMove, move, split, moveIntoFull_dropped none]

end

end

/-! ## One slot of a read -/

theorem setContact_notices (i : Fin 2) (v : Option Contact) (s : State) : (setContact i v s).notices = s.notices := by
  unfold setContact
  split <;> rfl

theorem contactAt_setContact (i : Fin 2) (v : Option Contact) (s : State) : contactAt (setContact i v s) i = v := by
  unfold contactAt setContact
  split <;> rfl

theorem latched_setContact {s t : State} {ks : Port → Half} (i : Fin 2) (v : Option Contact) (h : Latched s t ks) :
    Latched s (setContact i v t) ks := by
  unfold setContact
  split <;> exact ⟨h.notice, h.made⟩

theorem slotStep_absent {i : Fin 2} {s : State} (absent : contactAt s i = none) : slotStep i none s = s := by
  simp only [slotStep, absent]

/-- A contact appears: a DOWN (R147). -/
theorem slotStep_appears {i : Fin 2} {s : State} (absent : contactAt s i = none) (q : Nat × Nat) :
    slotStep i (some q) s =
      setContact i (some { owner := ownerNow s, px := q.1, py := q.2 })
        (deliver (ownerNow s) { kind := .down, slot := i, px := q.1, py := q.2, time := s.time } s).1 := by
  simp only [slotStep, absent, deliver_setContact, setContact_time]

section
variable {i : Fin 2} {s : State} {c : Contact} (present : contactAt s i = some c)
include present

/-- A contact vanishes: an UP (R147). -/
theorem slotStep_vanishes :
    slotStep i none s =
      setContact i none (deliver c.owner { kind := .up, slot := i, px := c.px, py := c.py, time := s.time } s).1 := by
  simp only [slotStep, present, deliver_setContact, setContact_time]

theorem slotStep_stays : slotStep i (some (c.px, c.py)) s = s := by
  simp only [slotStep, present, if_true]

section
variable {q : Nat × Nat} (away : q ≠ (c.px, c.py))
include away

/-- A contact moves: a MOVE, and the contact follows it unless it was dropped (R147, R150). -/
theorem slotStep_moves :
    slotStep i (some q) s =
      let r := deliver c.owner { kind := .move, slot := i, px := q.1, py := q.2, time := s.time } s
      if r.2 then setContact i (some { c with px := q.1, py := q.2 }) r.1 else r.1 := by
  simp only [slotStep, present, if_neg away]

theorem slotStep_follows {t : State}
    (taken : deliver c.owner { kind := .move, slot := i, px := q.1, py := q.2, time := s.time } s = (t, true)) :
    slotStep i (some q) s = setContact i (some { c with px := q.1, py := q.2 }) t := by
  rw [slotStep_moves present away, taken]
  rfl

theorem slotStep_dropped
    (dropped : deliver c.owner { kind := .move, slot := i, px := q.1, py := q.2, time := s.time } s = (s, false)) :
    slotStep i (some q) s = s := by
  rw [slotStep_moves present away, dropped]
  rfl

end

end

theorem splitQueue_eq (s : State) (x : Screen) :
    splitQueue s x =
      (if touchSending s x then (s.touchQueue x).take 1 else [],
        if touchSending s x then (s.touchQueue x).drop 1 else s.touchQueue x) := by
  unfold splitQueue
  split <;> rfl

/-- Settles O59: each way an event of the slot arises, and for it the room and the overflow of the owner's queue. -/
theorem touchEventsDerived : Obligations.TouchEventsDerived := by
  unfold Obligations.TouchEventsDerived
  intro s i q event sent queued joins edge
  have split (x : Screen) : splitQueue s x = (sent x, queued x) := splitQueue_eq s x
  have joined (o : Option Screen) (ev : TouchEvent) : joins o ev (deliver o ev s).1 := by
    refine ⟨fun x own room => ?_, fun x other => deliver_touchQueue_ne ev s other⟩
    subst own
    rw [deliver_of_room ev room]
    exact ⟨State.setTouchQueue_touchQueue_self s x _, rfl⟩
  have joined_contact {o : Option Screen} {ev : TouchEvent} {t : State} (v : Option Contact) (h : joins o ev t) :
      joins o ev (setContact i v t) := by
    simp only [joins, setContact_touchQueue, setContact_notices]
    exact h
  have edged (o : Option Screen) (ev : TouchEvent) (v : Option Contact) (kind : ev.kind ≠ .move) :
      edge o ev (setContact i v (deliver o ev s).1) := by
    refine ⟨joined_contact v (joined o ev), fun x own full => ?_⟩
    subst own
    refine ⟨fun a m b eq move first => ?_, fun none => ?_⟩
    · rw [deliver_edge_oldest full kind (by rw [split, eq]) move first, setContact_touchQueue, setContact_notices]
      exact ⟨State.setTouchQueue_touchQueue_self s x _, rfl⟩
    · rw [deliver_edge_lost full kind (split x) none, setContact_touchQueue, latch_touchQueue]
      have latched := (latch_only (portOfScreen x) .touchLost (s.setTouchQueue x (sent x ++ (queued x).drop 1 ++ [ev]))).latched
      exact ⟨State.setTouchQueue_touchQueue_self s x _, latched_setContact i v ⟨latched.notice, latched.made⟩⟩
  refine ⟨fun absent => ⟨slotStep_absent absent, ?_⟩, fun c present => ⟨⟨?_, ?_⟩, ?_, fun away => ?_⟩, ?_, ?_⟩
  · rw [slotStep_appears absent]
    exact ⟨contactAt_setContact i _ _, edged _ _ _ nofun⟩
  · rw [slotStep_vanishes present, contactAt_setContact]
  · rw [slotStep_vanishes present]
    exact edged _ _ _ nofun
  · rintro rfl
    exact slotStep_stays present
  · obtain ⟨o, px, py⟩ := c
    have taken {x : Screen} {l : List TouchEvent}
        (h : deliver o (event .move q.1 q.2) s = (s.setTouchQueue x l, true)) :
        let t := slotStep i (some q) s
        (contactAt t i = some ⟨o, q.1, q.2⟩ ∧ t.notices = s.notices) ∧ t.touchQueue x = l := by
      rw [slotStep_follows present away h]
      exact ⟨⟨contactAt_setContact i _ _, setContact_notices i _ _⟩,
        (setContact_touchQueue i _ x _).trans (State.setTouchQueue_touchQueue_self s x l)⟩
    refine ⟨?_, fun room => ?_, fun x own full => ?_⟩
    · have h := joined o (event .move q.1 q.2)
      rw [slotStep_moves present away]
      dsimp only
      split
      · exact joined_contact _ h
      · exact h
    · cases o with
      | none =>
        rw [slotStep_follows present away (t := s) rfl]
        exact ⟨contactAt_setContact i _ _, setContact_notices i _ _⟩
      | some x => exact (taken (deliver_of_room _ (room x rfl))).1
    · subst own
      refine ⟨fun a m b ⟨eq, slot, others⟩ move => ?_, fun new => ⟨fun a m b eq move first => ?_, fun none => ?_⟩⟩
      · rw [List.append_assoc]
        exact taken (deliver_move full rfl (by rw [split, eq]) (moveIntoFull_newest slot others move))
      · rw [eq] at new
        rw [List.append_assoc]
        exact taken (deliver_move full rfl (by rw [split, eq]) (moveIntoFull_oldest new move first))
      · exact slotStep_dropped present away (deliver_dropped full rfl (split x) none)
  · intro a at' given
    simp [rawSlot, given, scale]
  · unfold ownerNow
    cases s.session.state <;> rfl

end Sys2Proof.Proofs
end
